-- ==== Sys2Proof/Word.lean ====
section
/-! DEFINITION. The machine's byte and 16-bit word (spec/00_scope.md R4, R6). -/

namespace Sys2Proof

/-- A byte: a register A, X, Y, S, a memory cell, an operand byte (R4, R6). -/
abbrev Byte := BitVec 8

/-- A 16-bit CPU address or the program counter (R4, R6). -/
abbrev Word := BitVec 16

end Sys2Proof
end

