-- ==== Sys2Proof/Syntax.lean ====
section
/-! DEFINITION. The instruction set as syntax: one constructor of `Instr` for each of the 256 rows of
spec/opcode_table.json (spec/30_encoding.md R158), named by mnemonic and addressing mode, with the operand
bytes the row's format has (R141). -/

namespace Sys2Proof

/-- The 13 addressing modes (R142 to R154) with the operand the instruction carries. -/
inductive Operand where
  /-- `imp`, implied (R142). -/
  | imp
  /-- `acc`, the accumulator (R143). -/
  | acc
  /-- `imm`, the operand byte itself (R144). -/
  | imm (v : Byte)
  /-- `zp`, zero page (R145). -/
  | zp (z : Byte)
  /-- `zpx`, zero page indexed by X (R146). -/
  | zpx (z : Byte)
  /-- `zpy`, zero page indexed by Y (R147). -/
  | zpy (z : Byte)
  /-- `rel`, a signed displacement (R148). -/
  | rel (d : Byte)
  /-- `abs`, absolute (R149). -/
  | abs (a : Word)
  /-- `abx`, absolute indexed by X (R150). -/
  | abx (a : Word)
  /-- `aby`, absolute indexed by Y (R151). -/
  | aby (a : Word)
  /-- `ind`, indirect, JMP only (R152). -/
  | ind (a : Word)
  /-- `izx`, indexed indirect (R153). -/
  | izx (z : Byte)
  /-- `izy`, indirect indexed (R154). -/
  | izy (z : Byte)
deriving DecidableEq, Repr

/-- The class of an opcode (R158). -/
inductive OpClass where
  /-- One of the 151 documented opcodes. -/
  | official
  /-- One of the 64 unofficial opcodes the source names. -/
  | unofficial
  /-- One of the 28 opcodes defined only when `UNOFFICIAL_EXTRAS` is true (R160). -/
  | extra
  /-- One of the 13 opcodes that never have a handler (R159). -/
  | illegal
deriving DecidableEq, Repr

/-- The mnemonics of the spec; `illegal` stands for the 13 rows without a handler. -/
inductive Mnemonic where
  | lda | ldx | ldy | sta | stx | sty
  | tax | tay | txa | tya | tsx | txs | pha | php | pla | plp
  | and | ora | eor | bit | adc | sbc | cmp | cpx | cpy
  | inc | dec | inx | iny | dex | dey | asl | lsr | rol | ror
  | jmp | jsr | rts | rti | brk | bcc | bcs | beq | bne | bmi | bpl | bvc | bvs
  | clc | sec | cli | sei | clv | cld | sed | nop
  | lax | sax | dcp | isc | slo | rla | sre | rra | anc | alr | arr | sbx | ane | las | sha | shx | shy | tas
  | illegal
deriving DecidableEq, Repr

/-- An instruction: one constructor for each row of the opcode table (R158). The argument is the operand:
`v` an immediate byte, `z` a zero-page byte, `d` a signed displacement, `a` a 16-bit address. -/
inductive Instr where
  -- load and store (40_load_store.md)
  | ldaIzx (z : Byte)
  | ldaZp (z : Byte)
  | ldaImm (v : Byte)
  | ldaAbs (a : Word)
  | ldaIzy (z : Byte)
  | ldaZpx (z : Byte)
  | ldaAby (a : Word)
  | ldaAbx (a : Word)
  | ldxImm (v : Byte)
  | ldxZp (z : Byte)
  | ldxAbs (a : Word)
  | ldxZpy (z : Byte)
  | ldxAby (a : Word)
  | ldyImm (v : Byte)
  | ldyZp (z : Byte)
  | ldyAbs (a : Word)
  | ldyZpx (z : Byte)
  | ldyAbx (a : Word)
  | staIzx (z : Byte)
  | staZp (z : Byte)
  | staAbs (a : Word)
  | staIzy (z : Byte)
  | staZpx (z : Byte)
  | staAby (a : Word)
  | staAbx (a : Word)
  | stxZp (z : Byte)
  | stxAbs (a : Word)
  | stxZpy (z : Byte)
  | styZp (z : Byte)
  | styAbs (a : Word)
  | styZpx (z : Byte)
  -- transfer and stack (41_transfer_stack.md)
  | tax
  | tay
  | txa
  | tya
  | tsx
  | txs
  | pha
  | php
  | pla
  | plp
  -- logic, arithmetic, compare (42_alu.md)
  | andIzx (z : Byte)
  | andZp (z : Byte)
  | andImm (v : Byte)
  | andAbs (a : Word)
  | andIzy (z : Byte)
  | andZpx (z : Byte)
  | andAby (a : Word)
  | andAbx (a : Word)
  | oraIzx (z : Byte)
  | oraZp (z : Byte)
  | oraImm (v : Byte)
  | oraAbs (a : Word)
  | oraIzy (z : Byte)
  | oraZpx (z : Byte)
  | oraAby (a : Word)
  | oraAbx (a : Word)
  | eorIzx (z : Byte)
  | eorZp (z : Byte)
  | eorImm (v : Byte)
  | eorAbs (a : Word)
  | eorIzy (z : Byte)
  | eorZpx (z : Byte)
  | eorAby (a : Word)
  | eorAbx (a : Word)
  | bitZp (z : Byte)
  | bitAbs (a : Word)
  | adcIzx (z : Byte)
  | adcZp (z : Byte)
  | adcImm (v : Byte)
  | adcAbs (a : Word)
  | adcIzy (z : Byte)
  | adcZpx (z : Byte)
  | adcAby (a : Word)
  | adcAbx (a : Word)
  | sbcIzx (z : Byte)
  | sbcZp (z : Byte)
  | sbcImm (v : Byte)
  | sbcAbs (a : Word)
  | sbcIzy (z : Byte)
  | sbcZpx (z : Byte)
  | sbcAby (a : Word)
  | sbcAbx (a : Word)
  | cmpIzx (z : Byte)
  | cmpZp (z : Byte)
  | cmpImm (v : Byte)
  | cmpAbs (a : Word)
  | cmpIzy (z : Byte)
  | cmpZpx (z : Byte)
  | cmpAby (a : Word)
  | cmpAbx (a : Word)
  | cpxImm (v : Byte)
  | cpxZp (z : Byte)
  | cpxAbs (a : Word)
  | cpyImm (v : Byte)
  | cpyZp (z : Byte)
  | cpyAbs (a : Word)
  -- read-modify-write (43_rmw.md)
  | incZp (z : Byte)
  | incAbs (a : Word)
  | incZpx (z : Byte)
  | incAbx (a : Word)
  | decZp (z : Byte)
  | decAbs (a : Word)
  | decZpx (z : Byte)
  | decAbx (a : Word)
  | inx
  | iny
  | dex
  | dey
  | aslZp (z : Byte)
  | aslAcc
  | aslAbs (a : Word)
  | aslZpx (z : Byte)
  | aslAbx (a : Word)
  | lsrZp (z : Byte)
  | lsrAcc
  | lsrAbs (a : Word)
  | lsrZpx (z : Byte)
  | lsrAbx (a : Word)
  | rolZp (z : Byte)
  | rolAcc
  | rolAbs (a : Word)
  | rolZpx (z : Byte)
  | rolAbx (a : Word)
  | rorZp (z : Byte)
  | rorAcc
  | rorAbs (a : Word)
  | rorZpx (z : Byte)
  | rorAbx (a : Word)
  -- control flow (44_control_flow.md)
  | jmpAbs (a : Word)
  | jmpInd (a : Word)
  | jsrAbs (a : Word)
  | rts
  | rti
  | brk
  | bcc (d : Byte)
  | bcs (d : Byte)
  | beq (d : Byte)
  | bne (d : Byte)
  | bmi (d : Byte)
  | bpl (d : Byte)
  | bvc (d : Byte)
  | bvs (d : Byte)
  -- flags and NOP (45_flags_nop.md)
  | clc
  | sec
  | cli
  | sei
  | clv
  | cld
  | sed
  | nop
  -- unofficial (46_unofficial.md)
  | laxIzx (z : Byte)
  | laxZp (z : Byte)
  | laxAbs (a : Word)
  | laxIzy (z : Byte)
  | laxZpy (z : Byte)
  | laxAby (a : Word)
  | saxIzx (z : Byte)
  | saxZp (z : Byte)
  | saxAbs (a : Word)
  | saxZpy (z : Byte)
  | dcpIzx (z : Byte)
  | dcpZp (z : Byte)
  | dcpAbs (a : Word)
  | dcpIzy (z : Byte)
  | dcpZpx (z : Byte)
  | dcpAby (a : Word)
  | dcpAbx (a : Word)
  | iscIzx (z : Byte)
  | iscZp (z : Byte)
  | iscAbs (a : Word)
  | iscIzy (z : Byte)
  | iscZpx (z : Byte)
  | iscAby (a : Word)
  | iscAbx (a : Word)
  | sloIzx (z : Byte)
  | sloZp (z : Byte)
  | sloAbs (a : Word)
  | sloIzy (z : Byte)
  | sloZpx (z : Byte)
  | sloAby (a : Word)
  | sloAbx (a : Word)
  | rlaIzx (z : Byte)
  | rlaZp (z : Byte)
  | rlaAbs (a : Word)
  | rlaIzy (z : Byte)
  | rlaZpx (z : Byte)
  | rlaAby (a : Word)
  | rlaAbx (a : Word)
  | sreIzx (z : Byte)
  | sreZp (z : Byte)
  | sreAbs (a : Word)
  | sreIzy (z : Byte)
  | sreZpx (z : Byte)
  | sreAby (a : Word)
  | sreAbx (a : Word)
  | rraIzx (z : Byte)
  | rraZp (z : Byte)
  | rraAbs (a : Word)
  | rraIzy (z : Byte)
  | rraZpx (z : Byte)
  | rraAby (a : Word)
  | rraAbx (a : Word)
  | ancImm0B (v : Byte)
  | ancImm2B (v : Byte)
  | alrImm (v : Byte)
  | arrImm (v : Byte)
  | sbxImm (v : Byte)
  | aneImm (v : Byte)
  | lasAby (a : Word)
  | shaIzy (z : Byte)
  | shaAby (a : Word)
  | shxAby (a : Word)
  | shyAbx (a : Word)
  | tasAby (a : Word)
  -- extra: defined when UNOFFICIAL_EXTRAS is true (46_unofficial.md R338, R339)
  | nopZp04 (z : Byte)
  | nopAbs0C (a : Word)
  | nopZpx14 (z : Byte)
  | nop1A
  | nopAbx1C (a : Word)
  | nopZpx34 (z : Byte)
  | nop3A
  | nopAbx3C (a : Word)
  | nopZp44 (z : Byte)
  | nopZpx54 (z : Byte)
  | nop5A
  | nopAbx5C (a : Word)
  | nopZp64 (z : Byte)
  | nopZpx74 (z : Byte)
  | nop7A
  | nopAbx7C (a : Word)
  | nopImm80 (v : Byte)
  | nopImm82 (v : Byte)
  | nopImm89 (v : Byte)
  | nopImmC2 (v : Byte)
  | nopZpxD4 (z : Byte)
  | nopDA
  | nopAbxDC (a : Word)
  | nopImmE2 (v : Byte)
  | sbcImmEB (v : Byte)
  | nopZpxF4 (z : Byte)
  | nopFA
  | nopAbxFC (a : Word)
  -- illegal: no handler (30_encoding.md R159)
  | illegal02
  | illegal12
  | illegal22
  | illegal32
  | illegal42
  | illegal52
  | illegal62
  | illegal72
  | illegal92
  | illegalAB
  | illegalB2
  | illegalD2
  | illegalF2
deriving DecidableEq, Repr

end Sys2Proof
end

