-- ==== Sys2Proof/WellFormed.lean ====
section
/-! DEFINITION. Which instructions have a handler (spec/30_encoding.md R158 to R161). Operand fields are typed
by their widths, so the one check an instruction can fail is R159's: its opcode's class has no handler. -/

namespace Sys2Proof

/-- The class column of the opcode table (R158). -/
def Instr.cls : Instr → OpClass
  | .ldaIzx _ => .official
  | .ldaZp _ => .official
  | .ldaImm _ => .official
  | .ldaAbs _ => .official
  | .ldaIzy _ => .official
  | .ldaZpx _ => .official
  | .ldaAby _ => .official
  | .ldaAbx _ => .official
  | .ldxImm _ => .official
  | .ldxZp _ => .official
  | .ldxAbs _ => .official
  | .ldxZpy _ => .official
  | .ldxAby _ => .official
  | .ldyImm _ => .official
  | .ldyZp _ => .official
  | .ldyAbs _ => .official
  | .ldyZpx _ => .official
  | .ldyAbx _ => .official
  | .staIzx _ => .official
  | .staZp _ => .official
  | .staAbs _ => .official
  | .staIzy _ => .official
  | .staZpx _ => .official
  | .staAby _ => .official
  | .staAbx _ => .official
  | .stxZp _ => .official
  | .stxAbs _ => .official
  | .stxZpy _ => .official
  | .styZp _ => .official
  | .styAbs _ => .official
  | .styZpx _ => .official
  | .tax => .official
  | .tay => .official
  | .txa => .official
  | .tya => .official
  | .tsx => .official
  | .txs => .official
  | .pha => .official
  | .php => .official
  | .pla => .official
  | .plp => .official
  | .andIzx _ => .official
  | .andZp _ => .official
  | .andImm _ => .official
  | .andAbs _ => .official
  | .andIzy _ => .official
  | .andZpx _ => .official
  | .andAby _ => .official
  | .andAbx _ => .official
  | .oraIzx _ => .official
  | .oraZp _ => .official
  | .oraImm _ => .official
  | .oraAbs _ => .official
  | .oraIzy _ => .official
  | .oraZpx _ => .official
  | .oraAby _ => .official
  | .oraAbx _ => .official
  | .eorIzx _ => .official
  | .eorZp _ => .official
  | .eorImm _ => .official
  | .eorAbs _ => .official
  | .eorIzy _ => .official
  | .eorZpx _ => .official
  | .eorAby _ => .official
  | .eorAbx _ => .official
  | .bitZp _ => .official
  | .bitAbs _ => .official
  | .adcIzx _ => .official
  | .adcZp _ => .official
  | .adcImm _ => .official
  | .adcAbs _ => .official
  | .adcIzy _ => .official
  | .adcZpx _ => .official
  | .adcAby _ => .official
  | .adcAbx _ => .official
  | .sbcIzx _ => .official
  | .sbcZp _ => .official
  | .sbcImm _ => .official
  | .sbcAbs _ => .official
  | .sbcIzy _ => .official
  | .sbcZpx _ => .official
  | .sbcAby _ => .official
  | .sbcAbx _ => .official
  | .cmpIzx _ => .official
  | .cmpZp _ => .official
  | .cmpImm _ => .official
  | .cmpAbs _ => .official
  | .cmpIzy _ => .official
  | .cmpZpx _ => .official
  | .cmpAby _ => .official
  | .cmpAbx _ => .official
  | .cpxImm _ => .official
  | .cpxZp _ => .official
  | .cpxAbs _ => .official
  | .cpyImm _ => .official
  | .cpyZp _ => .official
  | .cpyAbs _ => .official
  | .incZp _ => .official
  | .incAbs _ => .official
  | .incZpx _ => .official
  | .incAbx _ => .official
  | .decZp _ => .official
  | .decAbs _ => .official
  | .decZpx _ => .official
  | .decAbx _ => .official
  | .inx => .official
  | .iny => .official
  | .dex => .official
  | .dey => .official
  | .aslZp _ => .official
  | .aslAcc => .official
  | .aslAbs _ => .official
  | .aslZpx _ => .official
  | .aslAbx _ => .official
  | .lsrZp _ => .official
  | .lsrAcc => .official
  | .lsrAbs _ => .official
  | .lsrZpx _ => .official
  | .lsrAbx _ => .official
  | .rolZp _ => .official
  | .rolAcc => .official
  | .rolAbs _ => .official
  | .rolZpx _ => .official
  | .rolAbx _ => .official
  | .rorZp _ => .official
  | .rorAcc => .official
  | .rorAbs _ => .official
  | .rorZpx _ => .official
  | .rorAbx _ => .official
  | .jmpAbs _ => .official
  | .jmpInd _ => .official
  | .jsrAbs _ => .official
  | .rts => .official
  | .rti => .official
  | .brk => .official
  | .bcc _ => .official
  | .bcs _ => .official
  | .beq _ => .official
  | .bne _ => .official
  | .bmi _ => .official
  | .bpl _ => .official
  | .bvc _ => .official
  | .bvs _ => .official
  | .clc => .official
  | .sec => .official
  | .cli => .official
  | .sei => .official
  | .clv => .official
  | .cld => .official
  | .sed => .official
  | .nop => .official
  | .laxIzx _ => .unofficial
  | .laxZp _ => .unofficial
  | .laxAbs _ => .unofficial
  | .laxIzy _ => .unofficial
  | .laxZpy _ => .unofficial
  | .laxAby _ => .unofficial
  | .saxIzx _ => .unofficial
  | .saxZp _ => .unofficial
  | .saxAbs _ => .unofficial
  | .saxZpy _ => .unofficial
  | .dcpIzx _ => .unofficial
  | .dcpZp _ => .unofficial
  | .dcpAbs _ => .unofficial
  | .dcpIzy _ => .unofficial
  | .dcpZpx _ => .unofficial
  | .dcpAby _ => .unofficial
  | .dcpAbx _ => .unofficial
  | .iscIzx _ => .unofficial
  | .iscZp _ => .unofficial
  | .iscAbs _ => .unofficial
  | .iscIzy _ => .unofficial
  | .iscZpx _ => .unofficial
  | .iscAby _ => .unofficial
  | .iscAbx _ => .unofficial
  | .sloIzx _ => .unofficial
  | .sloZp _ => .unofficial
  | .sloAbs _ => .unofficial
  | .sloIzy _ => .unofficial
  | .sloZpx _ => .unofficial
  | .sloAby _ => .unofficial
  | .sloAbx _ => .unofficial
  | .rlaIzx _ => .unofficial
  | .rlaZp _ => .unofficial
  | .rlaAbs _ => .unofficial
  | .rlaIzy _ => .unofficial
  | .rlaZpx _ => .unofficial
  | .rlaAby _ => .unofficial
  | .rlaAbx _ => .unofficial
  | .sreIzx _ => .unofficial
  | .sreZp _ => .unofficial
  | .sreAbs _ => .unofficial
  | .sreIzy _ => .unofficial
  | .sreZpx _ => .unofficial
  | .sreAby _ => .unofficial
  | .sreAbx _ => .unofficial
  | .rraIzx _ => .unofficial
  | .rraZp _ => .unofficial
  | .rraAbs _ => .unofficial
  | .rraIzy _ => .unofficial
  | .rraZpx _ => .unofficial
  | .rraAby _ => .unofficial
  | .rraAbx _ => .unofficial
  | .ancImm0B _ => .unofficial
  | .ancImm2B _ => .unofficial
  | .alrImm _ => .unofficial
  | .arrImm _ => .unofficial
  | .sbxImm _ => .unofficial
  | .aneImm _ => .unofficial
  | .lasAby _ => .unofficial
  | .shaIzy _ => .unofficial
  | .shaAby _ => .unofficial
  | .shxAby _ => .unofficial
  | .shyAbx _ => .unofficial
  | .tasAby _ => .unofficial
  | .nopZp04 _ => .extra
  | .nopAbs0C _ => .extra
  | .nopZpx14 _ => .extra
  | .nop1A => .extra
  | .nopAbx1C _ => .extra
  | .nopZpx34 _ => .extra
  | .nop3A => .extra
  | .nopAbx3C _ => .extra
  | .nopZp44 _ => .extra
  | .nopZpx54 _ => .extra
  | .nop5A => .extra
  | .nopAbx5C _ => .extra
  | .nopZp64 _ => .extra
  | .nopZpx74 _ => .extra
  | .nop7A => .extra
  | .nopAbx7C _ => .extra
  | .nopImm80 _ => .extra
  | .nopImm82 _ => .extra
  | .nopImm89 _ => .extra
  | .nopImmC2 _ => .extra
  | .nopZpxD4 _ => .extra
  | .nopDA => .extra
  | .nopAbxDC _ => .extra
  | .nopImmE2 _ => .extra
  | .sbcImmEB _ => .extra
  | .nopZpxF4 _ => .extra
  | .nopFA => .extra
  | .nopAbxFC _ => .extra
  | .illegal02 => .illegal
  | .illegal12 => .illegal
  | .illegal22 => .illegal
  | .illegal32 => .illegal
  | .illegal42 => .illegal
  | .illegal52 => .illegal
  | .illegal62 => .illegal
  | .illegal72 => .illegal
  | .illegal92 => .illegal
  | .illegalAB => .illegal
  | .illegalB2 => .illegal
  | .illegalD2 => .illegal
  | .illegalF2 => .illegal

/-- Whether an opcode of this class is dispatched to a handler, for a value of `UNOFFICIAL_EXTRAS` (R159, R160). -/
def OpClass.hasHandler (extras : Bool) : OpClass → Bool
  | .official => true
  | .unofficial => true
  | .extra => extras
  | .illegal => false

/-- An instruction is well formed, for a value of `UNOFFICIAL_EXTRAS`, when its opcode has a handler (R159, R160). -/
def Instr.wellFormed (extras : Bool) (i : Instr) : Bool := i.cls.hasHandler extras

end Sys2Proof
end

