-- ==== Sys2Proof/Decode.lean ====
section
/-! DEFINITION. Decoding and encoding (spec/30_encoding.md R140, R141, R158): the byte-order and sign-extension
helpers, the opcode table as data, a decoder that is total on any bytes and rejects by name, and an encoder. -/

namespace Sys2Proof

/-! ## Byte order and sign extension (R6, R7, R94) -/

/-- `word(h, l) = h*256 + l` (R6). -/
def wordOf (h l : Byte) : Word := h ++ l

/-- `lo(w) = w[7:0]` (R6). -/
def loByte (w : Word) : Byte := w.extractLsb' 0 8

/-- `hi(w) = w[15:8]` (R6). -/
def hiByte (w : Word) : Byte := w.extractLsb' 8 8

/-- `sext_16(b)` (R7). -/
def sext16 (b : Byte) : Word := b.signExtend 16

/-- `zext_16(b)` (R7). -/
def zext16 (b : Byte) : Word := b.zeroExtend 16

/-! ## The opcode table (R158) -/

/-- One row of the opcode table: opcode, mnemonic, size in bytes, base cycles, page-cross flag. An illegal row has
no size and no cycles in the spec: here size 1, the opcode byte alone, and 0 cycles (log 14). -/
structure Row where
  opcode : Byte
  mnemonic : Mnemonic
  size : Nat
  cycles : Nat
  pageCross : Bool
deriving DecidableEq, Repr

/-- The row of an instruction (R158). -/
def Instr.row : Instr → Row
  | .ldaIzx _ => ⟨0xA1, .lda, 2, 6, false⟩
  | .ldaZp _ => ⟨0xA5, .lda, 2, 3, false⟩
  | .ldaImm _ => ⟨0xA9, .lda, 2, 2, false⟩
  | .ldaAbs _ => ⟨0xAD, .lda, 3, 4, false⟩
  | .ldaIzy _ => ⟨0xB1, .lda, 2, 5, true⟩
  | .ldaZpx _ => ⟨0xB5, .lda, 2, 4, false⟩
  | .ldaAby _ => ⟨0xB9, .lda, 3, 4, true⟩
  | .ldaAbx _ => ⟨0xBD, .lda, 3, 4, true⟩
  | .ldxImm _ => ⟨0xA2, .ldx, 2, 2, false⟩
  | .ldxZp _ => ⟨0xA6, .ldx, 2, 3, false⟩
  | .ldxAbs _ => ⟨0xAE, .ldx, 3, 4, false⟩
  | .ldxZpy _ => ⟨0xB6, .ldx, 2, 4, false⟩
  | .ldxAby _ => ⟨0xBE, .ldx, 3, 4, true⟩
  | .ldyImm _ => ⟨0xA0, .ldy, 2, 2, false⟩
  | .ldyZp _ => ⟨0xA4, .ldy, 2, 3, false⟩
  | .ldyAbs _ => ⟨0xAC, .ldy, 3, 4, false⟩
  | .ldyZpx _ => ⟨0xB4, .ldy, 2, 4, false⟩
  | .ldyAbx _ => ⟨0xBC, .ldy, 3, 4, true⟩
  | .staIzx _ => ⟨0x81, .sta, 2, 6, false⟩
  | .staZp _ => ⟨0x85, .sta, 2, 3, false⟩
  | .staAbs _ => ⟨0x8D, .sta, 3, 4, false⟩
  | .staIzy _ => ⟨0x91, .sta, 2, 6, false⟩
  | .staZpx _ => ⟨0x95, .sta, 2, 4, false⟩
  | .staAby _ => ⟨0x99, .sta, 3, 5, false⟩
  | .staAbx _ => ⟨0x9D, .sta, 3, 5, false⟩
  | .stxZp _ => ⟨0x86, .stx, 2, 3, false⟩
  | .stxAbs _ => ⟨0x8E, .stx, 3, 4, false⟩
  | .stxZpy _ => ⟨0x96, .stx, 2, 4, false⟩
  | .styZp _ => ⟨0x84, .sty, 2, 3, false⟩
  | .styAbs _ => ⟨0x8C, .sty, 3, 4, false⟩
  | .styZpx _ => ⟨0x94, .sty, 2, 4, false⟩
  | .tax => ⟨0xAA, .tax, 1, 2, false⟩
  | .tay => ⟨0xA8, .tay, 1, 2, false⟩
  | .txa => ⟨0x8A, .txa, 1, 2, false⟩
  | .tya => ⟨0x98, .tya, 1, 2, false⟩
  | .tsx => ⟨0xBA, .tsx, 1, 2, false⟩
  | .txs => ⟨0x9A, .txs, 1, 2, false⟩
  | .pha => ⟨0x48, .pha, 1, 3, false⟩
  | .php => ⟨0x08, .php, 1, 3, false⟩
  | .pla => ⟨0x68, .pla, 1, 4, false⟩
  | .plp => ⟨0x28, .plp, 1, 4, false⟩
  | .andIzx _ => ⟨0x21, .and, 2, 6, false⟩
  | .andZp _ => ⟨0x25, .and, 2, 3, false⟩
  | .andImm _ => ⟨0x29, .and, 2, 2, false⟩
  | .andAbs _ => ⟨0x2D, .and, 3, 4, false⟩
  | .andIzy _ => ⟨0x31, .and, 2, 5, true⟩
  | .andZpx _ => ⟨0x35, .and, 2, 4, false⟩
  | .andAby _ => ⟨0x39, .and, 3, 4, true⟩
  | .andAbx _ => ⟨0x3D, .and, 3, 4, true⟩
  | .oraIzx _ => ⟨0x01, .ora, 2, 6, false⟩
  | .oraZp _ => ⟨0x05, .ora, 2, 3, false⟩
  | .oraImm _ => ⟨0x09, .ora, 2, 2, false⟩
  | .oraAbs _ => ⟨0x0D, .ora, 3, 4, false⟩
  | .oraIzy _ => ⟨0x11, .ora, 2, 5, true⟩
  | .oraZpx _ => ⟨0x15, .ora, 2, 4, false⟩
  | .oraAby _ => ⟨0x19, .ora, 3, 4, true⟩
  | .oraAbx _ => ⟨0x1D, .ora, 3, 4, true⟩
  | .eorIzx _ => ⟨0x41, .eor, 2, 6, false⟩
  | .eorZp _ => ⟨0x45, .eor, 2, 3, false⟩
  | .eorImm _ => ⟨0x49, .eor, 2, 2, false⟩
  | .eorAbs _ => ⟨0x4D, .eor, 3, 4, false⟩
  | .eorIzy _ => ⟨0x51, .eor, 2, 5, true⟩
  | .eorZpx _ => ⟨0x55, .eor, 2, 4, false⟩
  | .eorAby _ => ⟨0x59, .eor, 3, 4, true⟩
  | .eorAbx _ => ⟨0x5D, .eor, 3, 4, true⟩
  | .bitZp _ => ⟨0x24, .bit, 2, 3, false⟩
  | .bitAbs _ => ⟨0x2C, .bit, 3, 4, false⟩
  | .adcIzx _ => ⟨0x61, .adc, 2, 6, false⟩
  | .adcZp _ => ⟨0x65, .adc, 2, 3, false⟩
  | .adcImm _ => ⟨0x69, .adc, 2, 2, false⟩
  | .adcAbs _ => ⟨0x6D, .adc, 3, 4, false⟩
  | .adcIzy _ => ⟨0x71, .adc, 2, 5, true⟩
  | .adcZpx _ => ⟨0x75, .adc, 2, 4, false⟩
  | .adcAby _ => ⟨0x79, .adc, 3, 4, true⟩
  | .adcAbx _ => ⟨0x7D, .adc, 3, 4, true⟩
  | .sbcIzx _ => ⟨0xE1, .sbc, 2, 6, false⟩
  | .sbcZp _ => ⟨0xE5, .sbc, 2, 3, false⟩
  | .sbcImm _ => ⟨0xE9, .sbc, 2, 2, false⟩
  | .sbcAbs _ => ⟨0xED, .sbc, 3, 4, false⟩
  | .sbcIzy _ => ⟨0xF1, .sbc, 2, 5, true⟩
  | .sbcZpx _ => ⟨0xF5, .sbc, 2, 4, false⟩
  | .sbcAby _ => ⟨0xF9, .sbc, 3, 4, true⟩
  | .sbcAbx _ => ⟨0xFD, .sbc, 3, 4, true⟩
  | .cmpIzx _ => ⟨0xC1, .cmp, 2, 6, false⟩
  | .cmpZp _ => ⟨0xC5, .cmp, 2, 3, false⟩
  | .cmpImm _ => ⟨0xC9, .cmp, 2, 2, false⟩
  | .cmpAbs _ => ⟨0xCD, .cmp, 3, 4, false⟩
  | .cmpIzy _ => ⟨0xD1, .cmp, 2, 5, true⟩
  | .cmpZpx _ => ⟨0xD5, .cmp, 2, 4, false⟩
  | .cmpAby _ => ⟨0xD9, .cmp, 3, 4, true⟩
  | .cmpAbx _ => ⟨0xDD, .cmp, 3, 4, true⟩
  | .cpxImm _ => ⟨0xE0, .cpx, 2, 2, false⟩
  | .cpxZp _ => ⟨0xE4, .cpx, 2, 3, false⟩
  | .cpxAbs _ => ⟨0xEC, .cpx, 3, 4, false⟩
  | .cpyImm _ => ⟨0xC0, .cpy, 2, 2, false⟩
  | .cpyZp _ => ⟨0xC4, .cpy, 2, 3, false⟩
  | .cpyAbs _ => ⟨0xCC, .cpy, 3, 4, false⟩
  | .incZp _ => ⟨0xE6, .inc, 2, 5, false⟩
  | .incAbs _ => ⟨0xEE, .inc, 3, 6, false⟩
  | .incZpx _ => ⟨0xF6, .inc, 2, 6, false⟩
  | .incAbx _ => ⟨0xFE, .inc, 3, 7, false⟩
  | .decZp _ => ⟨0xC6, .dec, 2, 5, false⟩
  | .decAbs _ => ⟨0xCE, .dec, 3, 6, false⟩
  | .decZpx _ => ⟨0xD6, .dec, 2, 6, false⟩
  | .decAbx _ => ⟨0xDE, .dec, 3, 7, false⟩
  | .inx => ⟨0xE8, .inx, 1, 2, false⟩
  | .iny => ⟨0xC8, .iny, 1, 2, false⟩
  | .dex => ⟨0xCA, .dex, 1, 2, false⟩
  | .dey => ⟨0x88, .dey, 1, 2, false⟩
  | .aslZp _ => ⟨0x06, .asl, 2, 5, false⟩
  | .aslAcc => ⟨0x0A, .asl, 1, 2, false⟩
  | .aslAbs _ => ⟨0x0E, .asl, 3, 6, false⟩
  | .aslZpx _ => ⟨0x16, .asl, 2, 6, false⟩
  | .aslAbx _ => ⟨0x1E, .asl, 3, 7, false⟩
  | .lsrZp _ => ⟨0x46, .lsr, 2, 5, false⟩
  | .lsrAcc => ⟨0x4A, .lsr, 1, 2, false⟩
  | .lsrAbs _ => ⟨0x4E, .lsr, 3, 6, false⟩
  | .lsrZpx _ => ⟨0x56, .lsr, 2, 6, false⟩
  | .lsrAbx _ => ⟨0x5E, .lsr, 3, 7, false⟩
  | .rolZp _ => ⟨0x26, .rol, 2, 5, false⟩
  | .rolAcc => ⟨0x2A, .rol, 1, 2, false⟩
  | .rolAbs _ => ⟨0x2E, .rol, 3, 6, false⟩
  | .rolZpx _ => ⟨0x36, .rol, 2, 6, false⟩
  | .rolAbx _ => ⟨0x3E, .rol, 3, 7, false⟩
  | .rorZp _ => ⟨0x66, .ror, 2, 5, false⟩
  | .rorAcc => ⟨0x6A, .ror, 1, 2, false⟩
  | .rorAbs _ => ⟨0x6E, .ror, 3, 6, false⟩
  | .rorZpx _ => ⟨0x76, .ror, 2, 6, false⟩
  | .rorAbx _ => ⟨0x7E, .ror, 3, 7, false⟩
  | .jmpAbs _ => ⟨0x4C, .jmp, 3, 3, false⟩
  | .jmpInd _ => ⟨0x6C, .jmp, 3, 5, false⟩
  | .jsrAbs _ => ⟨0x20, .jsr, 3, 6, false⟩
  | .rts => ⟨0x60, .rts, 1, 6, false⟩
  | .rti => ⟨0x40, .rti, 1, 6, false⟩
  | .brk => ⟨0x00, .brk, 2, 7, false⟩
  | .bcc _ => ⟨0x90, .bcc, 2, 2, false⟩
  | .bcs _ => ⟨0xB0, .bcs, 2, 2, false⟩
  | .beq _ => ⟨0xF0, .beq, 2, 2, false⟩
  | .bne _ => ⟨0xD0, .bne, 2, 2, false⟩
  | .bmi _ => ⟨0x30, .bmi, 2, 2, false⟩
  | .bpl _ => ⟨0x10, .bpl, 2, 2, false⟩
  | .bvc _ => ⟨0x50, .bvc, 2, 2, false⟩
  | .bvs _ => ⟨0x70, .bvs, 2, 2, false⟩
  | .clc => ⟨0x18, .clc, 1, 2, false⟩
  | .sec => ⟨0x38, .sec, 1, 2, false⟩
  | .cli => ⟨0x58, .cli, 1, 2, false⟩
  | .sei => ⟨0x78, .sei, 1, 2, false⟩
  | .clv => ⟨0xB8, .clv, 1, 2, false⟩
  | .cld => ⟨0xD8, .cld, 1, 2, false⟩
  | .sed => ⟨0xF8, .sed, 1, 2, false⟩
  | .nop => ⟨0xEA, .nop, 1, 2, false⟩
  | .laxIzx _ => ⟨0xA3, .lax, 2, 6, false⟩
  | .laxZp _ => ⟨0xA7, .lax, 2, 3, false⟩
  | .laxAbs _ => ⟨0xAF, .lax, 3, 4, false⟩
  | .laxIzy _ => ⟨0xB3, .lax, 2, 5, true⟩
  | .laxZpy _ => ⟨0xB7, .lax, 2, 4, false⟩
  | .laxAby _ => ⟨0xBF, .lax, 3, 4, true⟩
  | .saxIzx _ => ⟨0x83, .sax, 2, 6, false⟩
  | .saxZp _ => ⟨0x87, .sax, 2, 3, false⟩
  | .saxAbs _ => ⟨0x8F, .sax, 3, 4, false⟩
  | .saxZpy _ => ⟨0x97, .sax, 2, 4, false⟩
  | .dcpIzx _ => ⟨0xC3, .dcp, 2, 8, false⟩
  | .dcpZp _ => ⟨0xC7, .dcp, 2, 5, false⟩
  | .dcpAbs _ => ⟨0xCF, .dcp, 3, 6, false⟩
  | .dcpIzy _ => ⟨0xD3, .dcp, 2, 8, false⟩
  | .dcpZpx _ => ⟨0xD7, .dcp, 2, 6, false⟩
  | .dcpAby _ => ⟨0xDB, .dcp, 3, 7, false⟩
  | .dcpAbx _ => ⟨0xDF, .dcp, 3, 7, false⟩
  | .iscIzx _ => ⟨0xE3, .isc, 2, 8, false⟩
  | .iscZp _ => ⟨0xE7, .isc, 2, 5, false⟩
  | .iscAbs _ => ⟨0xEF, .isc, 3, 6, false⟩
  | .iscIzy _ => ⟨0xF3, .isc, 2, 8, false⟩
  | .iscZpx _ => ⟨0xF7, .isc, 2, 6, false⟩
  | .iscAby _ => ⟨0xFB, .isc, 3, 7, false⟩
  | .iscAbx _ => ⟨0xFF, .isc, 3, 7, false⟩
  | .sloIzx _ => ⟨0x03, .slo, 2, 8, false⟩
  | .sloZp _ => ⟨0x07, .slo, 2, 5, false⟩
  | .sloAbs _ => ⟨0x0F, .slo, 3, 6, false⟩
  | .sloIzy _ => ⟨0x13, .slo, 2, 8, false⟩
  | .sloZpx _ => ⟨0x17, .slo, 2, 6, false⟩
  | .sloAby _ => ⟨0x1B, .slo, 3, 7, false⟩
  | .sloAbx _ => ⟨0x1F, .slo, 3, 7, false⟩
  | .rlaIzx _ => ⟨0x23, .rla, 2, 8, false⟩
  | .rlaZp _ => ⟨0x27, .rla, 2, 5, false⟩
  | .rlaAbs _ => ⟨0x2F, .rla, 3, 6, false⟩
  | .rlaIzy _ => ⟨0x33, .rla, 2, 8, false⟩
  | .rlaZpx _ => ⟨0x37, .rla, 2, 6, false⟩
  | .rlaAby _ => ⟨0x3B, .rla, 3, 7, false⟩
  | .rlaAbx _ => ⟨0x3F, .rla, 3, 7, false⟩
  | .sreIzx _ => ⟨0x43, .sre, 2, 8, false⟩
  | .sreZp _ => ⟨0x47, .sre, 2, 5, false⟩
  | .sreAbs _ => ⟨0x4F, .sre, 3, 6, false⟩
  | .sreIzy _ => ⟨0x53, .sre, 2, 8, false⟩
  | .sreZpx _ => ⟨0x57, .sre, 2, 6, false⟩
  | .sreAby _ => ⟨0x5B, .sre, 3, 7, false⟩
  | .sreAbx _ => ⟨0x5F, .sre, 3, 7, false⟩
  | .rraIzx _ => ⟨0x63, .rra, 2, 8, false⟩
  | .rraZp _ => ⟨0x67, .rra, 2, 5, false⟩
  | .rraAbs _ => ⟨0x6F, .rra, 3, 6, false⟩
  | .rraIzy _ => ⟨0x73, .rra, 2, 8, false⟩
  | .rraZpx _ => ⟨0x77, .rra, 2, 6, false⟩
  | .rraAby _ => ⟨0x7B, .rra, 3, 7, false⟩
  | .rraAbx _ => ⟨0x7F, .rra, 3, 7, false⟩
  | .ancImm0B _ => ⟨0x0B, .anc, 2, 2, false⟩
  | .ancImm2B _ => ⟨0x2B, .anc, 2, 2, false⟩
  | .alrImm _ => ⟨0x4B, .alr, 2, 2, false⟩
  | .arrImm _ => ⟨0x6B, .arr, 2, 2, false⟩
  | .sbxImm _ => ⟨0xCB, .sbx, 2, 2, false⟩
  | .aneImm _ => ⟨0x8B, .ane, 2, 2, false⟩
  | .lasAby _ => ⟨0xBB, .las, 3, 4, true⟩
  | .shaIzy _ => ⟨0x93, .sha, 2, 6, false⟩
  | .shaAby _ => ⟨0x9F, .sha, 3, 5, false⟩
  | .shxAby _ => ⟨0x9E, .shx, 3, 5, false⟩
  | .shyAbx _ => ⟨0x9C, .shy, 3, 5, false⟩
  | .tasAby _ => ⟨0x9B, .tas, 3, 5, false⟩
  | .nopZp04 _ => ⟨0x04, .nop, 2, 3, false⟩
  | .nopAbs0C _ => ⟨0x0C, .nop, 3, 4, false⟩
  | .nopZpx14 _ => ⟨0x14, .nop, 2, 4, false⟩
  | .nop1A => ⟨0x1A, .nop, 1, 2, false⟩
  | .nopAbx1C _ => ⟨0x1C, .nop, 3, 4, true⟩
  | .nopZpx34 _ => ⟨0x34, .nop, 2, 4, false⟩
  | .nop3A => ⟨0x3A, .nop, 1, 2, false⟩
  | .nopAbx3C _ => ⟨0x3C, .nop, 3, 4, true⟩
  | .nopZp44 _ => ⟨0x44, .nop, 2, 3, false⟩
  | .nopZpx54 _ => ⟨0x54, .nop, 2, 4, false⟩
  | .nop5A => ⟨0x5A, .nop, 1, 2, false⟩
  | .nopAbx5C _ => ⟨0x5C, .nop, 3, 4, true⟩
  | .nopZp64 _ => ⟨0x64, .nop, 2, 3, false⟩
  | .nopZpx74 _ => ⟨0x74, .nop, 2, 4, false⟩
  | .nop7A => ⟨0x7A, .nop, 1, 2, false⟩
  | .nopAbx7C _ => ⟨0x7C, .nop, 3, 4, true⟩
  | .nopImm80 _ => ⟨0x80, .nop, 2, 2, false⟩
  | .nopImm82 _ => ⟨0x82, .nop, 2, 2, false⟩
  | .nopImm89 _ => ⟨0x89, .nop, 2, 2, false⟩
  | .nopImmC2 _ => ⟨0xC2, .nop, 2, 2, false⟩
  | .nopZpxD4 _ => ⟨0xD4, .nop, 2, 4, false⟩
  | .nopDA => ⟨0xDA, .nop, 1, 2, false⟩
  | .nopAbxDC _ => ⟨0xDC, .nop, 3, 4, true⟩
  | .nopImmE2 _ => ⟨0xE2, .nop, 2, 2, false⟩
  | .sbcImmEB _ => ⟨0xEB, .sbc, 2, 2, false⟩
  | .nopZpxF4 _ => ⟨0xF4, .nop, 2, 4, false⟩
  | .nopFA => ⟨0xFA, .nop, 1, 2, false⟩
  | .nopAbxFC _ => ⟨0xFC, .nop, 3, 4, true⟩
  | .illegal02 => ⟨0x02, .illegal, 1, 0, false⟩
  | .illegal12 => ⟨0x12, .illegal, 1, 0, false⟩
  | .illegal22 => ⟨0x22, .illegal, 1, 0, false⟩
  | .illegal32 => ⟨0x32, .illegal, 1, 0, false⟩
  | .illegal42 => ⟨0x42, .illegal, 1, 0, false⟩
  | .illegal52 => ⟨0x52, .illegal, 1, 0, false⟩
  | .illegal62 => ⟨0x62, .illegal, 1, 0, false⟩
  | .illegal72 => ⟨0x72, .illegal, 1, 0, false⟩
  | .illegal92 => ⟨0x92, .illegal, 1, 0, false⟩
  | .illegalAB => ⟨0xAB, .illegal, 1, 0, false⟩
  | .illegalB2 => ⟨0xB2, .illegal, 1, 0, false⟩
  | .illegalD2 => ⟨0xD2, .illegal, 1, 0, false⟩
  | .illegalF2 => ⟨0xF2, .illegal, 1, 0, false⟩

/-- The operand of an instruction: its addressing mode (R158) with the operand it carries. -/
def Instr.operand : Instr → Operand
  | .ldaIzx z => .izx z
  | .ldaZp z => .zp z
  | .ldaImm v => .imm v
  | .ldaAbs a => .abs a
  | .ldaIzy z => .izy z
  | .ldaZpx z => .zpx z
  | .ldaAby a => .aby a
  | .ldaAbx a => .abx a
  | .ldxImm v => .imm v
  | .ldxZp z => .zp z
  | .ldxAbs a => .abs a
  | .ldxZpy z => .zpy z
  | .ldxAby a => .aby a
  | .ldyImm v => .imm v
  | .ldyZp z => .zp z
  | .ldyAbs a => .abs a
  | .ldyZpx z => .zpx z
  | .ldyAbx a => .abx a
  | .staIzx z => .izx z
  | .staZp z => .zp z
  | .staAbs a => .abs a
  | .staIzy z => .izy z
  | .staZpx z => .zpx z
  | .staAby a => .aby a
  | .staAbx a => .abx a
  | .stxZp z => .zp z
  | .stxAbs a => .abs a
  | .stxZpy z => .zpy z
  | .styZp z => .zp z
  | .styAbs a => .abs a
  | .styZpx z => .zpx z
  | .tax => .imp
  | .tay => .imp
  | .txa => .imp
  | .tya => .imp
  | .tsx => .imp
  | .txs => .imp
  | .pha => .imp
  | .php => .imp
  | .pla => .imp
  | .plp => .imp
  | .andIzx z => .izx z
  | .andZp z => .zp z
  | .andImm v => .imm v
  | .andAbs a => .abs a
  | .andIzy z => .izy z
  | .andZpx z => .zpx z
  | .andAby a => .aby a
  | .andAbx a => .abx a
  | .oraIzx z => .izx z
  | .oraZp z => .zp z
  | .oraImm v => .imm v
  | .oraAbs a => .abs a
  | .oraIzy z => .izy z
  | .oraZpx z => .zpx z
  | .oraAby a => .aby a
  | .oraAbx a => .abx a
  | .eorIzx z => .izx z
  | .eorZp z => .zp z
  | .eorImm v => .imm v
  | .eorAbs a => .abs a
  | .eorIzy z => .izy z
  | .eorZpx z => .zpx z
  | .eorAby a => .aby a
  | .eorAbx a => .abx a
  | .bitZp z => .zp z
  | .bitAbs a => .abs a
  | .adcIzx z => .izx z
  | .adcZp z => .zp z
  | .adcImm v => .imm v
  | .adcAbs a => .abs a
  | .adcIzy z => .izy z
  | .adcZpx z => .zpx z
  | .adcAby a => .aby a
  | .adcAbx a => .abx a
  | .sbcIzx z => .izx z
  | .sbcZp z => .zp z
  | .sbcImm v => .imm v
  | .sbcAbs a => .abs a
  | .sbcIzy z => .izy z
  | .sbcZpx z => .zpx z
  | .sbcAby a => .aby a
  | .sbcAbx a => .abx a
  | .cmpIzx z => .izx z
  | .cmpZp z => .zp z
  | .cmpImm v => .imm v
  | .cmpAbs a => .abs a
  | .cmpIzy z => .izy z
  | .cmpZpx z => .zpx z
  | .cmpAby a => .aby a
  | .cmpAbx a => .abx a
  | .cpxImm v => .imm v
  | .cpxZp z => .zp z
  | .cpxAbs a => .abs a
  | .cpyImm v => .imm v
  | .cpyZp z => .zp z
  | .cpyAbs a => .abs a
  | .incZp z => .zp z
  | .incAbs a => .abs a
  | .incZpx z => .zpx z
  | .incAbx a => .abx a
  | .decZp z => .zp z
  | .decAbs a => .abs a
  | .decZpx z => .zpx z
  | .decAbx a => .abx a
  | .inx => .imp
  | .iny => .imp
  | .dex => .imp
  | .dey => .imp
  | .aslZp z => .zp z
  | .aslAcc => .acc
  | .aslAbs a => .abs a
  | .aslZpx z => .zpx z
  | .aslAbx a => .abx a
  | .lsrZp z => .zp z
  | .lsrAcc => .acc
  | .lsrAbs a => .abs a
  | .lsrZpx z => .zpx z
  | .lsrAbx a => .abx a
  | .rolZp z => .zp z
  | .rolAcc => .acc
  | .rolAbs a => .abs a
  | .rolZpx z => .zpx z
  | .rolAbx a => .abx a
  | .rorZp z => .zp z
  | .rorAcc => .acc
  | .rorAbs a => .abs a
  | .rorZpx z => .zpx z
  | .rorAbx a => .abx a
  | .jmpAbs a => .abs a
  | .jmpInd a => .ind a
  | .jsrAbs a => .abs a
  | .rts => .imp
  | .rti => .imp
  | .brk => .imp
  | .bcc d => .rel d
  | .bcs d => .rel d
  | .beq d => .rel d
  | .bne d => .rel d
  | .bmi d => .rel d
  | .bpl d => .rel d
  | .bvc d => .rel d
  | .bvs d => .rel d
  | .clc => .imp
  | .sec => .imp
  | .cli => .imp
  | .sei => .imp
  | .clv => .imp
  | .cld => .imp
  | .sed => .imp
  | .nop => .imp
  | .laxIzx z => .izx z
  | .laxZp z => .zp z
  | .laxAbs a => .abs a
  | .laxIzy z => .izy z
  | .laxZpy z => .zpy z
  | .laxAby a => .aby a
  | .saxIzx z => .izx z
  | .saxZp z => .zp z
  | .saxAbs a => .abs a
  | .saxZpy z => .zpy z
  | .dcpIzx z => .izx z
  | .dcpZp z => .zp z
  | .dcpAbs a => .abs a
  | .dcpIzy z => .izy z
  | .dcpZpx z => .zpx z
  | .dcpAby a => .aby a
  | .dcpAbx a => .abx a
  | .iscIzx z => .izx z
  | .iscZp z => .zp z
  | .iscAbs a => .abs a
  | .iscIzy z => .izy z
  | .iscZpx z => .zpx z
  | .iscAby a => .aby a
  | .iscAbx a => .abx a
  | .sloIzx z => .izx z
  | .sloZp z => .zp z
  | .sloAbs a => .abs a
  | .sloIzy z => .izy z
  | .sloZpx z => .zpx z
  | .sloAby a => .aby a
  | .sloAbx a => .abx a
  | .rlaIzx z => .izx z
  | .rlaZp z => .zp z
  | .rlaAbs a => .abs a
  | .rlaIzy z => .izy z
  | .rlaZpx z => .zpx z
  | .rlaAby a => .aby a
  | .rlaAbx a => .abx a
  | .sreIzx z => .izx z
  | .sreZp z => .zp z
  | .sreAbs a => .abs a
  | .sreIzy z => .izy z
  | .sreZpx z => .zpx z
  | .sreAby a => .aby a
  | .sreAbx a => .abx a
  | .rraIzx z => .izx z
  | .rraZp z => .zp z
  | .rraAbs a => .abs a
  | .rraIzy z => .izy z
  | .rraZpx z => .zpx z
  | .rraAby a => .aby a
  | .rraAbx a => .abx a
  | .ancImm0B v => .imm v
  | .ancImm2B v => .imm v
  | .alrImm v => .imm v
  | .arrImm v => .imm v
  | .sbxImm v => .imm v
  | .aneImm v => .imm v
  | .lasAby a => .aby a
  | .shaIzy z => .izy z
  | .shaAby a => .aby a
  | .shxAby a => .aby a
  | .shyAbx a => .abx a
  | .tasAby a => .aby a
  | .nopZp04 z => .zp z
  | .nopAbs0C a => .abs a
  | .nopZpx14 z => .zpx z
  | .nop1A => .imp
  | .nopAbx1C a => .abx a
  | .nopZpx34 z => .zpx z
  | .nop3A => .imp
  | .nopAbx3C a => .abx a
  | .nopZp44 z => .zp z
  | .nopZpx54 z => .zpx z
  | .nop5A => .imp
  | .nopAbx5C a => .abx a
  | .nopZp64 z => .zp z
  | .nopZpx74 z => .zpx z
  | .nop7A => .imp
  | .nopAbx7C a => .abx a
  | .nopImm80 v => .imm v
  | .nopImm82 v => .imm v
  | .nopImm89 v => .imm v
  | .nopImmC2 v => .imm v
  | .nopZpxD4 z => .zpx z
  | .nopDA => .imp
  | .nopAbxDC a => .abx a
  | .nopImmE2 v => .imm v
  | .sbcImmEB v => .imm v
  | .nopZpxF4 z => .zpx z
  | .nopFA => .imp
  | .nopAbxFC a => .abx a
  | .illegal02 => .imp
  | .illegal12 => .imp
  | .illegal22 => .imp
  | .illegal32 => .imp
  | .illegal42 => .imp
  | .illegal52 => .imp
  | .illegal62 => .imp
  | .illegal72 => .imp
  | .illegal92 => .imp
  | .illegalAB => .imp
  | .illegalB2 => .imp
  | .illegalD2 => .imp
  | .illegalF2 => .imp

/-- The opcode byte. -/
def Instr.opcode (i : Instr) : Byte := i.row.opcode

/-- The mnemonic. -/
def Instr.mnemonic (i : Instr) : Mnemonic := i.row.mnemonic

/-- The size in bytes (R140). -/
def Instr.size (i : Instr) : Nat := i.row.size

/-! ## The decoder -/

/-- What follows an opcode (R141): nothing that is read (F1, and BRK), one byte (F2), or two bytes, low first (F3). -/
inductive Shape where
  | none (i : Instr)
  | byte (k : Byte → Instr)
  | word (k : Word → Instr)

/-- Opcodes `0x00` to `0x0F` (R158). -/
def shapes0 : List Shape := [
  .none .brk, .byte .oraIzx, .none .illegal02, .byte .sloIzx,
  .byte .nopZp04, .byte .oraZp, .byte .aslZp, .byte .sloZp,
  .none .php, .byte .oraImm, .none .aslAcc, .byte .ancImm0B,
  .word .nopAbs0C, .word .oraAbs, .word .aslAbs, .word .sloAbs]

/-- Opcodes `0x10` to `0x1F` (R158). -/
def shapes1 : List Shape := [
  .byte .bpl, .byte .oraIzy, .none .illegal12, .byte .sloIzy,
  .byte .nopZpx14, .byte .oraZpx, .byte .aslZpx, .byte .sloZpx,
  .none .clc, .word .oraAby, .none .nop1A, .word .sloAby,
  .word .nopAbx1C, .word .oraAbx, .word .aslAbx, .word .sloAbx]

/-- Opcodes `0x20` to `0x2F` (R158). -/
def shapes2 : List Shape := [
  .word .jsrAbs, .byte .andIzx, .none .illegal22, .byte .rlaIzx,
  .byte .bitZp, .byte .andZp, .byte .rolZp, .byte .rlaZp,
  .none .plp, .byte .andImm, .none .rolAcc, .byte .ancImm2B,
  .word .bitAbs, .word .andAbs, .word .rolAbs, .word .rlaAbs]

/-- Opcodes `0x30` to `0x3F` (R158). -/
def shapes3 : List Shape := [
  .byte .bmi, .byte .andIzy, .none .illegal32, .byte .rlaIzy,
  .byte .nopZpx34, .byte .andZpx, .byte .rolZpx, .byte .rlaZpx,
  .none .sec, .word .andAby, .none .nop3A, .word .rlaAby,
  .word .nopAbx3C, .word .andAbx, .word .rolAbx, .word .rlaAbx]

/-- Opcodes `0x40` to `0x4F` (R158). -/
def shapes4 : List Shape := [
  .none .rti, .byte .eorIzx, .none .illegal42, .byte .sreIzx,
  .byte .nopZp44, .byte .eorZp, .byte .lsrZp, .byte .sreZp,
  .none .pha, .byte .eorImm, .none .lsrAcc, .byte .alrImm,
  .word .jmpAbs, .word .eorAbs, .word .lsrAbs, .word .sreAbs]

/-- Opcodes `0x50` to `0x5F` (R158). -/
def shapes5 : List Shape := [
  .byte .bvc, .byte .eorIzy, .none .illegal52, .byte .sreIzy,
  .byte .nopZpx54, .byte .eorZpx, .byte .lsrZpx, .byte .sreZpx,
  .none .cli, .word .eorAby, .none .nop5A, .word .sreAby,
  .word .nopAbx5C, .word .eorAbx, .word .lsrAbx, .word .sreAbx]

/-- Opcodes `0x60` to `0x6F` (R158). -/
def shapes6 : List Shape := [
  .none .rts, .byte .adcIzx, .none .illegal62, .byte .rraIzx,
  .byte .nopZp64, .byte .adcZp, .byte .rorZp, .byte .rraZp,
  .none .pla, .byte .adcImm, .none .rorAcc, .byte .arrImm,
  .word .jmpInd, .word .adcAbs, .word .rorAbs, .word .rraAbs]

/-- Opcodes `0x70` to `0x7F` (R158). -/
def shapes7 : List Shape := [
  .byte .bvs, .byte .adcIzy, .none .illegal72, .byte .rraIzy,
  .byte .nopZpx74, .byte .adcZpx, .byte .rorZpx, .byte .rraZpx,
  .none .sei, .word .adcAby, .none .nop7A, .word .rraAby,
  .word .nopAbx7C, .word .adcAbx, .word .rorAbx, .word .rraAbx]

/-- Opcodes `0x80` to `0x8F` (R158). -/
def shapes8 : List Shape := [
  .byte .nopImm80, .byte .staIzx, .byte .nopImm82, .byte .saxIzx,
  .byte .styZp, .byte .staZp, .byte .stxZp, .byte .saxZp,
  .none .dey, .byte .nopImm89, .none .txa, .byte .aneImm,
  .word .styAbs, .word .staAbs, .word .stxAbs, .word .saxAbs]

/-- Opcodes `0x90` to `0x9F` (R158). -/
def shapes9 : List Shape := [
  .byte .bcc, .byte .staIzy, .none .illegal92, .byte .shaIzy,
  .byte .styZpx, .byte .staZpx, .byte .stxZpy, .byte .saxZpy,
  .none .tya, .word .staAby, .none .txs, .word .tasAby,
  .word .shyAbx, .word .staAbx, .word .shxAby, .word .shaAby]

/-- Opcodes `0xA0` to `0xAF` (R158). -/
def shapesA : List Shape := [
  .byte .ldyImm, .byte .ldaIzx, .byte .ldxImm, .byte .laxIzx,
  .byte .ldyZp, .byte .ldaZp, .byte .ldxZp, .byte .laxZp,
  .none .tay, .byte .ldaImm, .none .tax, .none .illegalAB,
  .word .ldyAbs, .word .ldaAbs, .word .ldxAbs, .word .laxAbs]

/-- Opcodes `0xB0` to `0xBF` (R158). -/
def shapesB : List Shape := [
  .byte .bcs, .byte .ldaIzy, .none .illegalB2, .byte .laxIzy,
  .byte .ldyZpx, .byte .ldaZpx, .byte .ldxZpy, .byte .laxZpy,
  .none .clv, .word .ldaAby, .none .tsx, .word .lasAby,
  .word .ldyAbx, .word .ldaAbx, .word .ldxAby, .word .laxAby]

/-- Opcodes `0xC0` to `0xCF` (R158). -/
def shapesC : List Shape := [
  .byte .cpyImm, .byte .cmpIzx, .byte .nopImmC2, .byte .dcpIzx,
  .byte .cpyZp, .byte .cmpZp, .byte .decZp, .byte .dcpZp,
  .none .iny, .byte .cmpImm, .none .dex, .byte .sbxImm,
  .word .cpyAbs, .word .cmpAbs, .word .decAbs, .word .dcpAbs]

/-- Opcodes `0xD0` to `0xDF` (R158). -/
def shapesD : List Shape := [
  .byte .bne, .byte .cmpIzy, .none .illegalD2, .byte .dcpIzy,
  .byte .nopZpxD4, .byte .cmpZpx, .byte .decZpx, .byte .dcpZpx,
  .none .cld, .word .cmpAby, .none .nopDA, .word .dcpAby,
  .word .nopAbxDC, .word .cmpAbx, .word .decAbx, .word .dcpAbx]

/-- Opcodes `0xE0` to `0xEF` (R158). -/
def shapesE : List Shape := [
  .byte .cpxImm, .byte .sbcIzx, .byte .nopImmE2, .byte .iscIzx,
  .byte .cpxZp, .byte .sbcZp, .byte .incZp, .byte .iscZp,
  .none .inx, .byte .sbcImm, .none .nop, .byte .sbcImmEB,
  .word .cpxAbs, .word .sbcAbs, .word .incAbs, .word .iscAbs]

/-- Opcodes `0xF0` to `0xFF` (R158). -/
def shapesF : List Shape := [
  .byte .beq, .byte .sbcIzy, .none .illegalF2, .byte .iscIzy,
  .byte .nopZpxF4, .byte .sbcZpx, .byte .incZpx, .byte .iscZpx,
  .none .sed, .word .sbcAby, .none .nopFA, .word .iscAby,
  .word .nopAbxFC, .word .sbcAbx, .word .incAbx, .word .iscAbx]

/-- The 256 shapes, sixteen rows of sixteen. -/
def shapes : List (List Shape) :=
  [shapes0, shapes1, shapes2, shapes3, shapes4, shapes5, shapes6, shapes7] ++
  [shapes8, shapes9, shapesA, shapesB, shapesC, shapesD, shapesE, shapesF]

/-- `Dispatch(op)` (R158): the shape of an opcode. The table has all 256 opcodes, so neither default is met. -/
def shapeOf (op : Byte) : Shape :=
  (shapes.getD (op.toNat / 16) []).getD (op.toNat % 16) (.none .illegal02)

/-- How many operand bytes are read after the opcode. BRK's padding byte is never read (R284). -/
def Shape.operandBytes : Shape → Nat
  | .none _ => 0
  | .byte _ => 1
  | .word _ => 2

/-- The instruction of a shape, with operand bytes `b1`, `b2` where the shape has them (R141: low byte first). -/
def Shape.instr (b1 b2 : Byte) : Shape → Instr
  | .none i => i
  | .byte k => k b1
  | .word k => k (wordOf b2 b1)

/-- Why a list of bytes is no instruction. Every one of the 256 opcodes is a row of the table (R161), so only a list
that ends too early is rejected. -/
inductive DecodeError where
  /-- There is no opcode byte. -/
  | noBytes
  /-- The list ends before the operand bytes of this opcode. -/
  | truncated (opcode : Byte)
deriving DecidableEq, Repr

/-- Decode one instruction from the front of a list of bytes; the rest of the list follows it (R140). BRK's padding
byte is skipped where the list has one (R284, log 15). -/
def decode : List Byte → Except DecodeError (Instr × List Byte)
  | [] => .error .noBytes
  | op :: rest =>
    match shapeOf op, rest with
    | .none .brk, _ => .ok (.brk, rest.drop 1)
    | .none i, _ => .ok (i, rest)
    | .byte k, b1 :: rest => .ok (k b1, rest)
    | .word k, b1 :: b2 :: rest => .ok (k (wordOf b2 b1), rest)
    | .byte _, [] => .error (.truncated op)
    | .word _, [] => .error (.truncated op)
    | .word _, [_] => .error (.truncated op)

/-! ## The encoder -/

/-- The operand bytes of a mode, low byte first (R141). -/
def Operand.bytes : Operand → List Byte
  | .imp => []
  | .acc => []
  | .imm v => [v]
  | .zp z => [z]
  | .zpx z => [z]
  | .zpy z => [z]
  | .rel d => [d]
  | .abs a => [loByte a, hiByte a]
  | .abx a => [loByte a, hiByte a]
  | .aby a => [loByte a, hiByte a]
  | .ind a => [loByte a, hiByte a]
  | .izx z => [z]
  | .izy z => [z]

/-- The bytes of an instruction (R141). BRK is followed by a padding byte, written 0 (R284, log 15). -/
def encode (i : Instr) : List Byte :=
  i.opcode :: (i.operand.bytes ++ if i = .brk then [0x00] else [])

/-! ## The host's numbering of a table word -/

/-- The three bytes of a table word: bits 7..0 first, bits at and above `nbits` zero. -/
def tableBytes (nbits w : Nat) : List Byte :=
  let v := w % 2 ^ nbits
  [BitVec.ofNat 8 v, BitVec.ofNat 8 (v / 256), BitVec.ofNat 8 (v / 65536)]

/-- The instruction the decoder reads from a table word. -/
def decodeTableWord (nbits w : Nat) : Option Instr :=
  match decode (tableBytes nbits w) with
  | .ok (i, _) => some i
  | .error _ => none

end Sys2Proof
end

