-- ==== Sys2Proof/Config.lean ====
section
/-! DEFINITION. The quantities the spec leaves open and gives no value for: constants with no body, so
that a claim about the machine holds whatever they are (spec/00_scope.md R4, spec/92_eei_decisions.md). -/

namespace Sys2Proof.Config

/-- `ANE_MAGIC` (R337, D7): the constant of the unofficial ANE, fixed for a run, no value in the spec.
Log 4. -/
opaque aneMagic : Byte

/-- `PPU_WO_READ` (R504, D20): what the `k`-th drawn read of a write-only PPU register returns. Log 5. -/
opaque ppuWoRead : Nat → Byte

/-- `CTRL_TAIL` (R92, D21): bit 0 of the `k`-th drawn controller read past the eighth. Log 5. -/
opaque ctrlTail : Nat → Bool

/-- `HostButtons()` (R91, R705): the eight button states the host supplies at the `k`-th draw, bit 0 = A,
1 = B, 2 = Select, 3 = Start, 4 = Up, 5 = Down, 6 = Left, 7 = Right. Log 6. -/
opaque hostButtons : Nat → Byte

/-- `CD_MIRROR_BIT` (R635, D27): the bit of a ColorDream register write that selects the screen. Log 7. -/
opaque cdMirrorBit : Fin 8

/-- A free transition function on any set of states, numbered, from which `M185_NEXT` is taken (R660, D28). Log 8. -/
opaque m185Step : Nat → Byte → Nat

/-- A free predicate on those states, from which `unlocked` is taken (R660, D28). Log 8. -/
opaque m185Open : Nat → Bool

/-- A free sequence of written bytes: the path through `0x3C` whose existence R660 (c) asserts. Log 8. -/
opaque m185Path : List Byte

end Sys2Proof.Config
end

