-- ==== Sys2Proof/Machine/Memory.lean ====
section
/-! DEFINITION. An array of bytes as plain data: (index, byte) cells in one canonical form. Every RAM, ROM and frame
buffer of the machine is one of these (spec/10_state.md R32, R36, R43 to R45). -/

namespace Sys2Proof.Machine

open Sys2Proof

/-- An array of bytes: its cells of nonzero value, indexes strictly rising. -/
abbrev Memory := List Host.Cell

namespace Memory

/-- What a cell that is not listed reads as. The spec gives the frame buffer the value 0 at reset (R50) and leaves the launch
contents of RAM, VRAM, palette, OAM, PRG-RAM and CHR-RAM unspecified (R451): DESIGN CHOICE, log 2. -/
def unlisted : Byte := 0

/-- The byte at index `k`. -/
def read : Memory → Nat → Byte
  | [], _ => unlisted
  | (j, v) :: m, k => if j = k then v else if k < j then unlisted else read m k

/-- `m` with the byte at index `k` set to `b`, in canonical form. -/
def write : Memory → Nat → Byte → Memory
  | [], k, b => if b = unlisted then [] else [(k, b)]
  | (j, v) :: m, k, b =>
    if j = k then (if b = unlisted then m else (k, b) :: m)
    else if k < j then (if b = unlisted then (j, v) :: m else (k, b) :: (j, v) :: m)
    else (j, v) :: write m k b

/-- The canonical form from index `lo` on, within an array of `size` bytes: indexes at least `lo`, strictly rising, below
`size`, and no cell of the unlisted value. -/
def wfFrom (size : Nat) : Nat → Memory → Bool
  | _, [] => true
  | lo, (j, v) :: m => decide (lo ≤ j) && decide (j < size) && (v != unlisted) && wfFrom size (j + 1) m

/-- The canonical form of an array of `size` bytes. -/
def wf (size : Nat) (m : Memory) : Bool := wfFrom size 0 m

/-- An array with the given bytes from index `k` on. -/
def ofBytes : Nat → List Byte → Memory
  | _, [] => []
  | k, b :: bs => if b = unlisted then ofBytes (k + 1) bs else (k, b) :: ofBytes (k + 1) bs

end Memory

end Sys2Proof.Machine
end

