-- ==== Sys2Proof/Machine/Params.lean ====
section
/-! DEFINITION. The numbers of the machine: the implementation parameters the spec gives a value for
(spec/00_scope.md R4), the vectors (spec/60_exceptions.md R414) and the reset values that are not zero
(spec/10_state.md R50). -/

namespace Sys2Proof.Machine

open Sys2Proof

/-- `NMI_DELAY`: polls an NMI waits (R4, R411, D11). -/
def nmiDelayPolls : Nat := 1

/-- `INT_CYCLES`: the cost of one interrupt service (R4, R413, D12). -/
def intCycles : Nat := 7

/-- `MMC3_IRQ_CYCLE`: the dot at which the MMC3 counter is clocked (R4, R675). -/
def mmc3IrqCycle : Nat := 315

/-- `DMA_STALL_EVEN` (R4, R90). -/
def dmaStallEven : Nat := 513

/-- `DMA_STALL_ODD` (R4, R90). -/
def dmaStallOdd : Nat := 514

/-- Dots for each CPU cycle (R700). -/
def dotsPerCycle : Nat := 3

/-- The NMI vector (R414). -/
def nmiVector : Word := 0xFFFA

/-- The reset vector (R414). -/
def resetVector : Word := 0xFFFC

/-- The IRQ and BRK vector (R414). -/
def irqVector : Word := 0xFFFE

/-- `S` after reset (R50, D16). -/
def resetS : Byte := 0xFD

/-- `RESET_CYCLES` (R4, R451, D14): open, the spec's recommended value. DESIGN CHOICE, log 9. -/
def resetCycles : Nat := 0

/-- `UNOFFICIAL_EXTRAS` (R160, D6) of `State.reset`: open. It is a field of State, so statements about a state hold for both
values. DESIGN CHOICE, log 3. -/
def resetExtras : Bool := true

/-- `mmc1Control` after reset (R645). -/
def resetMmc1Control : BitVec 5 := 0x0C

end Sys2Proof.Machine
end

