-- ==== Sys2Proof/Machine/State.lean ====
section
/-! DEFINITION. The state of the machine as plain data: every field of spec/10_state.md, with the reset values of
its R50; the faults and refusals of a step. -/

namespace Sys2Proof.Machine

open Sys2Proof

/-! ## CPU (R21 to R30) -/

/-- The seven flags (R26). -/
structure Flags where
  c : Bool
  z : Bool
  i : Bool
  d : Bool
  b : Bool
  v : Bool
  n : Bool
deriving DecidableEq, Repr

/-- CPU state: registers (R21 to R25), flags (R26), interrupt bookkeeping (R29), cycle bookkeeping (R30). -/
structure Cpu where
  a : Byte
  x : Byte
  y : Byte
  s : Byte
  pc : Word
  p : Flags
  irqPending : Bool
  nmiPending : Bool
  nmiDelay : Nat
  idle : Nat
  cycles : Nat
deriving DecidableEq, Repr

/-! ## CPU bus (R32, R33) -/

/-- The eight buttons in the order they are shifted out (R92). -/
structure Buttons where
  btnA : Bool
  btnB : Bool
  select : Bool
  start : Bool
  up : Bool
  down : Bool
  left : Bool
  right : Bool
deriving DecidableEq, Repr

/-- Internal RAM (R32) and the controller port (R33). -/
structure Bus where
  ram : Memory
  ctrlButtons : Buttons
  ctrlIndex : Nat
deriving DecidableEq, Repr

/-! ## PPU (R34 to R44) -/

/-- Four OAM bytes of a sprite (R36, R37): Y, tile, attributes, X. -/
structure Sprite where
  y : Byte
  tile : Byte
  attr : Byte
  x : Byte
deriving DecidableEq, Repr

/-- The decoded control flags written by `$2000` (R39). -/
structure PpuCtrl where
  nametable : BitVec 2
  increment32 : Bool
  spriteTable : Bool
  bgTable : Bool
  sprite16 : Bool
  masterSlave : Bool
  nmiEnable : Bool
deriving DecidableEq, Repr

/-- The decoded mask flags written by `$2001` (R40). -/
structure PpuMask where
  greyscale : Bool
  showBgLeft : Bool
  showSpritesLeft : Bool
  showBg : Bool
  showSprites : Bool
  emphasis : BitVec 3
deriving DecidableEq, Repr

/-- PPU state (R34 to R44). -/
structure Ppu where
  scanline : Nat
  cycle : Nat
  f : Bool
  v : BitVec 15
  t : BitVec 15
  fineX : BitVec 3
  w : Bool
  oam : Memory
  oamAddr : Byte
  spriteCount : Nat
  sprites : Vector Sprite 8
  spriteIndex : Vector Nat 8
  tileShift : BitVec 64
  ntByte : Byte
  atBits : BitVec 2
  patLow : Byte
  patHigh : Byte
  ctrl : PpuCtrl
  mask : PpuMask
  vblank : Bool
  spriteOverflow : Bool
  spriteZeroHit : Bool
  lastWrite : Byte
  readBuffer : Byte
  nmiLine : Bool
  vram : Memory
  palette : Memory
  framebuffer : Memory
deriving DecidableEq, Repr

/-! ## Cartridge and mapper (R45 to R47) -/

/-- The nametable layout (R46). -/
inductive Mirroring where
  | horizontal
  | vertical
  | singleLower
  | singleUpper
deriving DecidableEq, Repr

/-- `HeaderMirroring`, the layout the cartridge file names (R4, R601). -/
inductive HeaderMirroring where
  | horizontal
  | vertical
deriving DecidableEq, Repr

/-- The registers of MMC1 (R645). -/
structure Mmc1 where
  shift : BitVec 5
  count : Nat
  control : BitVec 5
  chr0 : BitVec 5
  chr1 : BitVec 5
  prg : BitVec 5
deriving DecidableEq, Repr

/-- The registers of MMC3 (R670). -/
structure Mmc3 where
  select : Byte
  bank : Vector Byte 8
  irqLatch : Byte
  irqCounter : Byte
  irqEnable : Bool
deriving DecidableEq, Repr

/-- The mapper variant, fixed at launch (R602), with the registers its protocol needs (R47). -/
inductive MapperRegs where
  /-- Mapper 0 (R610): no registers. -/
  | nrom
  /-- Mapper 1 (R645). -/
  | mmc1 (r : Mmc1)
  /-- Mapper 2 (R620): `uxPrgBank`. -/
  | uxrom (prgBank : BitVec 4)
  /-- Mapper 3 (R625): `cnChrBank`. -/
  | cnrom (chrBank : BitVec 2)
  /-- Mapper 4 (R670). -/
  | mmc3 (r : Mmc3)
  /-- Mapper 7 (R640): `axPrgBank`. -/
  | axrom (prgBank : BitVec 3)
  /-- Mapper 11 (R635): `cdPrgBank`, `cdChrBank`. -/
  | colorDream (prgBank : BitVec 2) (chrBank : BitVec 4)
  /-- Mapper 66 (R630): `gxPrgBank`, `gxChrBank`. -/
  | gxrom (prgBank : BitVec 2) (chrBank : BitVec 2)
  /-- Mapper 185 (R660): `m185State`, the number of an element of its set of states, `locked0` being 0 (log 8). -/
  | mapper185 (state : Nat)
deriving DecidableEq, Repr

/-- What the cartridge file fixes at launch (R4, R601) and no step changes. `MapperNumber` is the constructor of the
registers (R602). -/
structure CartImage where
  prgRomBanks : Nat
  chrBanks : Nat
  headerMirroring : HeaderMirroring
  prgRom : Memory
deriving DecidableEq, Repr

/-- The cartridge arrays (R45), the active mirroring (R46) and the variant's registers (R47). `chr` is ROM when
`chrBanks > 0` and RAM when it is 0. -/
structure Cart where
  image : CartImage
  chr : Memory
  prgRam : Memory
  expRam : Memory
  mirroring : Mirroring
  regs : MapperRegs
deriving DecidableEq, Repr

/-! ## The whole machine -/

/-- Whether a bus access was a read or a write (R400). -/
inductive Access where
  | read
  | write
deriving DecidableEq, Repr

/-- What a stepping fault records (R400, R401, D33). -/
inductive FaultRecord where
  | illegalOpcode (opcode : Byte) (pc0 : Word)
  | invalidAddress (addr : Word) (access : Access)
  | readOnlyMemory (addr : Word)
deriving DecidableEq, Repr

/-- The state of the machine (R20, R401), with three fields of the model's own: `draws`, the counter of the free values
(log 5); `buttonInputs`, the button states the host has queued for the coming latches (log 6); `lastFrame`, the picture the
draw callback last received (log 13). `unofficialExtras` is the launch parameter `UNOFFICIAL_EXTRAS` (R160, log 3). -/
structure State where
  cpu : Cpu
  bus : Bus
  ppu : Ppu
  cart : Cart
  fault : Option FaultRecord
  unofficialExtras : Bool
  draws : Nat
  buttonInputs : List Buttons
  lastFrame : Option Memory
deriving DecidableEq, Repr

/-- The faults a step can stop with (R400), each with the stopped state: the effects before the raise are in it, those after
it are not (R402), and its `fault` field holds the record (R401). All are the spec's own, and safe. -/
inductive Fault where
  /-- Raised by dispatch, for an opcode of class illegal, or of class extra while `UNOFFICIAL_EXTRAS` is false (R159). Safe. -/
  | illegalOpcode (opcode : Byte) (pc0 : Word) (stopped : State)
  /-- Raised by the mapper for a CPU access in `0x4020`–`0x5FFF` (R603). Safe. -/
  | invalidAddress (addr : Word) (access : Access) (stopped : State)
  /-- Raised by a PPU-bus write below `0x2000` on a cartridge with CHR-ROM (R604). Safe. -/
  | readOnlyMemory (addr : Word) (stopped : State)
deriving DecidableEq, Repr

/-- Reasons a step is refused. Every row of the opcode table has a meaning, so no step is. -/
inductive Refusal where
  /-- Raised by `exec` for an instruction that has no meaning yet: none. Safe. -/
  | notModelled (mnemonic : String)
deriving DecidableEq, Repr

/-! ## Reset values (R50) -/

/-- Flags after reset (R50): only I is set. -/
def Flags.reset : Flags :=
  { c := false, z := false, i := true, d := false, b := false, v := false, n := false }

/-- CPU state after reset, but for the program counter (R50, R450 step 5). -/
def Cpu.reset (pc : Word) : Cpu :=
  { a := 0, x := 0, y := 0, s := resetS, pc := pc, p := Flags.reset, irqPending := false, nmiPending := false,
    nmiDelay := 0, idle := 0, cycles := resetCycles }

/-- All buttons released (R50). -/
def Buttons.none : Buttons :=
  { btnA := false, btnB := false, select := false, start := false, up := false, down := false, left := false,
    right := false }

/-- PPU state after reset (R50, R450 step 3), keeping the arrays whose contents reset leaves alone (R451). -/
def Ppu.reset (oam vram palette : Memory) : Ppu :=
  { scanline := 0, cycle := 0, f := false, v := 0, t := 0, fineX := 0, w := false, oam := oam, oamAddr := 0,
    spriteCount := 0, sprites := Vector.replicate 8 ⟨0, 0, 0, 0⟩, spriteIndex := Vector.replicate 8 0, tileShift := 0,
    ntByte := 0, atBits := 0, patLow := 0, patHigh := 0,
    ctrl := { nametable := 0, increment32 := false, spriteTable := false, bgTable := false, sprite16 := false,
              masterSlave := false, nmiEnable := false },
    mask := { greyscale := false, showBgLeft := false, showSpritesLeft := false, showBg := false,
              showSprites := false, emphasis := 0 },
    vblank := false, spriteOverflow := false, spriteZeroHit := false, lastWrite := 0, readBuffer := 0,
    nmiLine := false, vram := vram, palette := palette, framebuffer := [] }

/-- The registers of a variant after reset (R610 to R670). -/
def MapperRegs.reset : MapperRegs → MapperRegs
  | .nrom => .nrom
  | .mmc1 _ => .mmc1 { shift := 0, count := 0, control := resetMmc1Control, chr0 := 0, chr1 := 0, prg := 0 }
  | .uxrom _ => .uxrom 0
  | .cnrom _ => .cnrom 0
  | .mmc3 _ => .mmc3 { select := 0, bank := Vector.replicate 8 0, irqLatch := 0, irqCounter := 0, irqEnable := false }
  | .axrom _ => .axrom 0
  | .colorDream _ _ => .colorDream 0 0
  | .gxrom _ _ => .gxrom 0 0
  | .mapper185 _ => .mapper185 0

/-- The cartridge of `State.reset`: the smallest the spec admits, with nothing listed. DESIGN CHOICE, log 1. -/
def CartImage.empty : CartImage :=
  { prgRomBanks := 1, chrBanks := 0, headerMirroring := .horizontal, prgRom := [] }

/-- The machine right after reset (R50, R450) with the cartridge of log 1 and nothing listed in any array (log 2). The
program counter is the word at the reset vector of that cartridge: 0. -/
def State.reset : State :=
  { cpu := Cpu.reset 0x0000
    bus := { ram := [], ctrlButtons := Buttons.none, ctrlIndex := 0 }
    ppu := Ppu.reset [] [] []
    cart := { image := CartImage.empty, chr := [], prgRam := [], expRam := [],
              mirroring := .horizontal, regs := .nrom }
    fault := none
    unofficialExtras := resetExtras
    draws := 0
    buttonInputs := []
    lastFrame := none }

end Sys2Proof.Machine
end

