-- ==== Sys2Proof/Machine/Flags.lean ====
section
/-! DEFINITION. Register updates and every flag computation of the spec (spec/10_state.md R27, R28; spec/42_alu.md
R240, R251, R252). -/

namespace Sys2Proof.Machine

open Sys2Proof

/-! ## Register updates: `r <- v` of spec/00_scope.md R8 -/

/-- `A <- v`. -/
def State.setA (s : State) (v : Byte) : State := { s with cpu := { s.cpu with a := v } }

/-- `X <- v`. -/
def State.setX (s : State) (v : Byte) : State := { s with cpu := { s.cpu with x := v } }

/-- `Y <- v`. -/
def State.setY (s : State) (v : Byte) : State := { s with cpu := { s.cpu with y := v } }

/-- `S <- v`. -/
def State.setS (s : State) (v : Byte) : State := { s with cpu := { s.cpu with s := v } }

/-- `PC <- v`. -/
def State.setPc (s : State) (v : Word) : State := { s with cpu := { s.cpu with pc := v } }

/-- The flags become `p`. -/
def State.setP (s : State) (p : Flags) : State := { s with cpu := { s.cpu with p := p } }

/-- `cyc += n`, which also adds `n` to `cycles` (R9). -/
def State.charge (s : State) (n : Nat) : State := { s with cpu := { s.cpu with cycles := s.cpu.cycles + n } }

/-! ## The status byte -/

/-- A flag as a bit. -/
def bit (b : Bool) : BitVec 1 := BitVec.ofBool b

/-- `StatusByte(b4)` (R27): N V 1 b4 D I Z C from bit 7 down. -/
def Flags.statusByte (p : Flags) (b4 : Bool) : Byte :=
  bit p.n ++ bit p.v ++ bit true ++ bit b4 ++ bit p.d ++ bit p.i ++ bit p.z ++ bit p.c

/-- `SetStatus(v)` (R28): bits 4 and 5 are ignored, `P.B` is unchanged. -/
def Flags.setStatus (p : Flags) (v : Byte) : Flags :=
  { c := v.getLsbD 0, z := v.getLsbD 1, i := v.getLsbD 2, d := v.getLsbD 3, b := p.b, v := v.getLsbD 6,
    n := v.getLsbD 7 }

/-! ## Results and flags -/

/-- `SetZN(v)` (R240) on the flags. -/
def Flags.withZN (p : Flags) (v : Byte) : Flags := { p with z := v == 0, n := v.getLsbD 7 }

/-- `SetZN(v)` (R240). -/
def State.setZN (s : State) (v : Byte) : State := s.setP (s.cpu.p.withZN v)

/-- `P.C <- c`. -/
def State.setC (s : State) (c : Bool) : State := s.setP { s.cpu.p with c := c }

/-- The exact sum `A + m + P.C` (R251). -/
def addSum (a m : Byte) (c : Bool) : Nat := a.toNat + m.toNat + c.toNat

/-- Signed overflow of `a + m` with result `r` (R251): `((a ^ r) & (m ^ r) & 0x80) != 0`. -/
def addOverflow (a m r : Byte) : Bool := ((a ^^^ r) &&& (m ^^^ r) &&& 0x80) != 0

/-- `AddWithCarry(m)` (R251). `P.D` is not read (R250, D4). -/
def State.addWithCarry (s : State) (m : Byte) : State :=
  let sum := addSum s.cpu.a m s.cpu.p.c
  let r := BitVec.ofNat 8 sum
  ((s.setP { s.cpu.p with c := decide (sum > 255), v := addOverflow s.cpu.a m r }).setA r).setZN r

/-- `Compare(r, m)` (R252): an unsigned comparison that writes only C, Z and N. -/
def State.compare (s : State) (r m : Byte) : State := (s.setC (decide (r.toNat ≥ m.toNat))).setZN (r - m)

/-! ## Shifts: the result and the carry out (R267 to R270) -/

/-- ASL's result and carry (R267). -/
def shiftLeft (m : Byte) : Byte × Bool := (m <<< 1, m.getLsbD 7)

/-- LSR's result and carry (R268). -/
def shiftRight (m : Byte) : Byte × Bool := (m >>> 1, m.getLsbD 0)

/-- ROL's result and carry, with the old carry `c` (R269). -/
def rotateLeft (c : Bool) (m : Byte) : Byte × Bool := ((m <<< 1) ||| (bit c).zeroExtend 8, m.getLsbD 7)

/-- ROR's result and carry, with the old carry `c` (R270). -/
def rotateRight (c : Bool) (m : Byte) : Byte × Bool := ((m >>> 1) ||| ((bit c).zeroExtend 8 <<< 7), m.getLsbD 0)

end Sys2Proof.Machine
end

