-- ==== Sys2Proof/Machine/Mapper.lean ====
section
/-! DEFINITION. Cartridge and mapper variants: address translation and register writes (spec/62_mappers.md). Every function
here is over the cartridge alone. -/

namespace Sys2Proof.Machine

open Sys2Proof

/-- The nametable layout a header bit gives at launch (R46, R601). -/
def HeaderMirroring.mirroring : HeaderMirroring → Mirroring
  | .horizontal => .horizontal
  | .vertical => .vertical

/-! ## Sizes (R45, R604) -/

/-- `CHRLEN` (R45): 8192 bytes of CHR-RAM when there are no CHR banks. -/
def CartImage.chrLen (m : CartImage) : Nat := if m.chrBanks = 0 then 8192 else m.chrBanks * 8192

/-- The length of PRG-ROM (R45). -/
def CartImage.prgLen (m : CartImage) : Nat := m.prgRomBanks * 16384

/-- `usesChrRam` (R45). -/
def CartImage.usesChrRam (m : CartImage) : Bool := m.chrBanks == 0

/-- Which variants have PRG-RAM at `0x6000`–`0x7FFF` (R603, D23). -/
def MapperRegs.hasPrgRam : MapperRegs → Bool
  | .nrom => true
  | .mmc1 _ => true
  | .mmc3 _ => true
  | .uxrom _ => false
  | .cnrom _ => false
  | .axrom _ => false
  | .colorDream _ _ => false
  | .gxrom _ _ => false
  | .mapper185 _ => false

/-! ## Mapper185's open transition function (R660) -/

/-- Where a sequence of written bytes leads the free transition function from state `st`. -/
def m185Run (st : Nat) (path : List Byte) : Nat := path.foldl Config.m185Step st

/-- The free function and predicate satisfy R660's (a) `locked0` is locked, (b) `0x33` then `0x11` from it unlocks, (c) a path
with a write of `0x3C` unlocks. -/
def m185Admissible : Bool :=
  !Config.m185Open 0 && Config.m185Open (m185Run 0 [0x33, 0x11]) &&
  Config.m185Path.contains 0x3C && Config.m185Open (m185Run 0 Config.m185Path)

/-- R660's suggested instance: 0 `locked0`, 1 `locked1`, every other state `open`. -/
def m185Suggested (st : Nat) (d : Byte) : Nat :=
  if st ≠ 0 ∧ st ≠ 1 then st
  else if d = 0x3C then 2
  else if st = 1 ∧ d = 0x11 then 2
  else if st = 0 ∧ d = 0x33 then 1
  else 0

/-- `M185_NEXT` (R660, D28): any function that satisfies (a) to (c), log 8. -/
def m185Next (st : Nat) (d : Byte) : Nat := if m185Admissible then Config.m185Step st d else m185Suggested st d

/-- `unlocked(state)` (R660). -/
def m185Unlocked (st : Nat) : Bool :=
  if m185Admissible then Config.m185Open st else decide (st ≠ 0) && decide (st ≠ 1)

/-! ## PRG translation -/

/-- A 32 KB PRG window (R604, R630, R635, R640). -/
def prg32k (m : CartImage) (bank o : Nat) : Nat := (32768 * bank + o) % m.prgLen

/-- A 16 KB PRG bank (R604, R620, R648). -/
def prg16k (m : CartImage) (bank o : Nat) : Nat := 16384 * (bank % m.prgRomBanks) + o

/-- An 8 KB PRG bank (R604, R672). -/
def prg8k (m : CartImage) (bank o : Nat) : Nat := 8192 * (bank % (2 * m.prgRomBanks)) + o

/-- MMC1 `PrgOffset` (R648), `a` at least `0x8000`. -/
def Mmc1.prgOffset (r : Mmc1) (m : CartImage) (a : Nat) : Nat :=
  let b := r.prg.toNat % 16
  let upper := decide (0xC000 ≤ a)
  let bank :=
    match (r.control.extractLsb' 2 2).toNat with
    | 2 => if upper then b else 0
    | 3 => if upper then m.prgRomBanks - 1 else b
    | _ => b / 2 * 2 + (if upper then 1 else 0)
  prg16k m bank (a % 0x4000)

/-- MMC3 PRG bank of window `win` (R672). -/
def Mmc3.prgBank (r : Mmc3) (m : CartImage) (win : Nat) : Nat :=
  let n8 := 2 * m.prgRomBanks
  let dynamic := (r.bank[6]).toNat
  let fixed := n8 - 2
  match win with
  | 0 => if r.select.getLsbD 6 then fixed else dynamic
  | 1 => (r.bank[7]).toNat
  | 2 => if r.select.getLsbD 6 then dynamic else fixed
  | _ => n8 - 1

/-- `PrgOffset(a)` of the variant (R610 to R672), `a` at least `0x8000`: an index into `prgRom`. -/
def Cart.prgOffset (k : Cart) (a : Word) : Nat :=
  let m := k.image
  let a := a.toNat
  let o := a - 0x8000
  match k.regs with
  | .nrom => o % m.prgLen
  | .mmc1 r => r.prgOffset m a
  | .uxrom bank => if a < 0xC000 then prg16k m bank.toNat o else prg16k m (m.prgRomBanks - 1) (a - 0xC000)
  | .cnrom _ => o % m.prgLen
  | .mmc3 r => prg8k m (r.prgBank m (o / 0x2000)) (a % 0x2000)
  | .axrom bank => prg32k m bank.toNat o
  | .colorDream bank _ => prg32k m bank.toNat o
  | .gxrom bank _ => prg32k m bank.toNat o
  | .mapper185 _ => o % m.prgLen

/-! ## CHR translation -/

/-- An 8 KB CHR bank (R604). -/
def chr8k (m : CartImage) (bank o : Nat) : Nat := 8192 * (bank % (m.chrLen / 8192)) + o

/-- A 4 KB CHR bank (R604, R649). -/
def chr4k (m : CartImage) (bank o : Nat) : Nat := 4096 * (bank % (m.chrLen / 4096)) + o

/-- A 1 KB CHR bank (R604, R673). -/
def chr1k (m : CartImage) (bank o : Nat) : Nat := 1024 * (bank % (m.chrLen / 1024)) + o

/-- MMC1 `ChrOffset` (R649). -/
def Mmc1.chrOffset (r : Mmc1) (m : CartImage) (a : Nat) : Nat :=
  let upper := decide (0x1000 ≤ a)
  let bank :=
    if r.control.getLsbD 4 then (if upper then r.chr1.toNat else r.chr0.toNat)
    else r.chr0.toNat / 2 * 2 + (if upper then 1 else 0)
  chr4k m bank (a % 0x1000)

/-- MMC3 CHR bank of window `win`, 0..7 (R673). CHR mode 1 swaps the two halves. -/
def Mmc3.chrBank (r : Mmc3) (win : Nat) : Nat :=
  match (if r.select.getLsbD 7 then (win + 4) % 8 else win) with
  | 0 => (r.bank[0]).toNat / 2 * 2
  | 1 => (r.bank[0]).toNat / 2 * 2 + 1
  | 2 => (r.bank[1]).toNat / 2 * 2
  | 3 => (r.bank[1]).toNat / 2 * 2 + 1
  | 4 => (r.bank[2]).toNat
  | 5 => (r.bank[3]).toNat
  | 6 => (r.bank[4]).toNat
  | _ => (r.bank[5]).toNat

/-- `ChrOffset(a)` of the variant (R610 to R673), `a` below `0x2000`: an index into `chr`. -/
def Cart.chrOffset (k : Cart) (a : Nat) : Nat :=
  let m := k.image
  match k.regs with
  | .nrom => a
  | .mmc1 r => r.chrOffset m a
  | .uxrom _ => a
  | .cnrom bank => chr8k m bank.toNat a
  | .mmc3 r => chr1k m (r.chrBank (a / 0x400)) (a % 0x400)
  | .axrom _ => a
  | .colorDream _ bank => chr8k m bank.toNat a
  | .gxrom _ bank => chr8k m bank.toNat a
  | .mapper185 _ => a % m.chrLen

/-! ## Reads and writes (R603) -/

/-- `Mapper.Read(a)` from the PPU bus, `a` below `0x2000` (R603). A locked Mapper185 reads `0x0F` (R660). -/
def Cart.chrRead (k : Cart) (a : Nat) : Byte :=
  match k.regs with
  | .mapper185 st => if m185Unlocked st then k.chr.read (k.chrOffset a) else 0x0F
  | _ => k.chr.read (k.chrOffset a)

/-- `Mapper.Read(a)` from the CPU bus, `a` at least `0x4020` (R603): none where the read raises `InvalidAddress`. -/
def Cart.cpuRead (k : Cart) (a : Word) : Option Byte :=
  if a < 0x6000 then none
  else if a < 0x8000 then some (if k.regs.hasPrgRam then k.prgRam.read (a.toNat - 0x6000) else 0)
  else some (k.image.prgRom.read (k.prgOffset a))

/-- `Mmc1ApplyMirroring()` (R647). -/
def mmc1Mirroring (control : BitVec 5) : Mirroring :=
  match (control.extractLsb' 0 2).toNat with
  | 0 => .singleLower
  | 1 => .singleUpper
  | 2 => .vertical
  | _ => .horizontal

/-- Commit the five bits of MMC1's shift register `value` to the register that bits 14:13 of the address select (R646). -/
def Mmc1.commit (r : Mmc1) (a : Word) (value : BitVec 5) : Mmc1 :=
  let r := { r with shift := 0, count := 0 }
  match (a.extractLsb' 13 2).toNat with
  | 0 => { r with control := value }
  | 1 => { r with chr0 := value }
  | 2 => { r with chr1 := value }
  | _ => { r with prg := value }

/-- MMC1 `RegisterWrite` on the registers (R646). -/
def Mmc1.registerWrite (r : Mmc1) (a : Word) (d : Byte) : Mmc1 :=
  if d.getLsbD 7 then { r with shift := 0, count := 0, control := r.control ||| 0x0C }
  else
    let shift := r.shift ||| ((d.extractLsb' 0 1).zeroExtend 5 <<< r.count)
    if r.count + 1 = 5 then r.commit a shift else { r with shift := shift, count := r.count + 1 }

/-- Whether an MMC1 write ends in `Mmc1ApplyMirroring()`: a bit-7 write, or a fifth bit that commits the control register (R646). -/
def Mmc1.appliesMirroring (r : Mmc1) (a : Word) (d : Byte) : Bool :=
  d.getLsbD 7 || (decide (r.count + 1 = 5) && decide ((a.extractLsb' 13 2).toNat = 0))

/-- MMC3 `RegisterWrite` on the registers (R671). -/
def Mmc3.registerWrite (r : Mmc3) (a : Word) (d : Byte) : Mmc3 :=
  match (a.extractLsb' 13 2).toNat, a.getLsbD 0 with
  | 0, false => { r with select := d }
  | 0, true => { r with bank := r.bank.setIfInBounds (r.select.toNat % 8) d }
  | 1, _ => r
  | 2, false => { r with irqLatch := d }
  | 2, true => { r with irqCounter := 0 }
  | _, false => { r with irqEnable := false }
  | _, true => { r with irqEnable := true }

/-- The mirroring after an MMC3 register write (R671): even addresses `0xA000`–`0xBFFE`. -/
def mmc3Mirroring (old : Mirroring) (a : Word) (d : Byte) : Mirroring :=
  if (a.extractLsb' 13 2).toNat = 1 ∧ a.getLsbD 0 = false then
    (if d.getLsbD 0 then .horizontal else .vertical)
  else old

/-- One of the two single-screen layouts (R635, R640). -/
def singleScreen (upper : Bool) : Mirroring := if upper then .singleUpper else .singleLower

/-- `RegisterWrite(a, d)` of the variant (R610 to R671), `a` at least `0x8000`. It never changes an array. -/
def Cart.registerWrite (k : Cart) (a : Word) (d : Byte) : Cart :=
  match k.regs with
  | .nrom => k
  | .mmc1 r =>
    let r' := r.registerWrite a d
    { k with regs := .mmc1 r',
             mirroring := if r.appliesMirroring a d then mmc1Mirroring r'.control else k.mirroring }
  | .uxrom _ => { k with regs := .uxrom (d.extractLsb' 0 4) }
  | .cnrom _ => { k with regs := .cnrom (d.extractLsb' 0 2) }
  | .mmc3 r => { k with regs := .mmc3 (r.registerWrite a d), mirroring := mmc3Mirroring k.mirroring a d }
  | .axrom _ => { k with regs := .axrom (d.extractLsb' 0 3), mirroring := singleScreen (d.getLsbD 4) }
  | .colorDream _ _ =>
    { k with regs := .colorDream (d.extractLsb' 0 2) (d.extractLsb' 4 4),
             mirroring := singleScreen (d.getLsbD Config.cdMirrorBit.val) }
  | .gxrom _ _ => { k with regs := .gxrom (d.extractLsb' 4 2) (d.extractLsb' 0 2) }
  | .mapper185 st => { k with regs := .mapper185 (m185Next st d) }

/-- `Mapper.Write(a, d)` from the CPU bus, `a` at least `0x4020` (R603): none where the write raises `InvalidAddress`. -/
def Cart.cpuWrite (k : Cart) (a : Word) (d : Byte) : Option Cart :=
  if a < 0x6000 then none
  else if a < 0x8000 then
    some (if k.regs.hasPrgRam then { k with prgRam := k.prgRam.write (a.toNat - 0x6000) d } else k)
  else some (k.registerWrite a d)

/-- `WriteChr` (R604), `a` below `0x2000`: none where the write raises `ReadOnlyMemory`. -/
def Cart.chrWrite (k : Cart) (a : Nat) (d : Byte) : Option Cart :=
  if k.image.usesChrRam then some { k with chr := k.chr.write (k.chrOffset a) d } else none

/-! ## Nametables (R606) -/

/-- The page of the 2 KB of VRAM that a logical nametable 0..3 lies in (R606). -/
def Mirroring.page (m : Mirroring) (table : Nat) : Nat :=
  match m with
  | .horizontal => table / 2
  | .vertical => table % 2
  | .singleLower => 0
  | .singleUpper => 1

/-- `VramAddressToIndex(a)` for `a` in `0x2000`–`0x3EFF` (R606). -/
def Cart.vramIndex (k : Cart) (a : Nat) : Nat :=
  let o := (a - 0x2000) % 0x1000
  0x400 * k.mirroring.page (o / 0x400) + o % 0x400

/-! ## Reset (R450 step 2) -/

/-- The cartridge after `Reset`: registers at their reset values, header mirroring, array contents kept (R708, D16). -/
def Cart.reset (k : Cart) : Cart := { k with regs := k.regs.reset, mirroring := k.image.headerMirroring.mirroring }

end Sys2Proof.Machine
end

