-- ==== Sys2Proof/Machine/Ppu.lean ====
section
/-! DEFINITION. The interrupt lines into the CPU, the PPU bus and the PPU's register interface (spec/60_exceptions.md R410,
R411; spec/20_memory.md R105 to R107; spec/61_ppu.md R502 to R518, R550). -/

namespace Sys2Proof.Machine

open Sys2Proof

/-! ## Faults (R400, R401) -/

/-- `raise F(info)` (R401): the record goes into `fault`, and the step stops with the state as it stands. -/
def State.raise (s : State) (r : FaultRecord) : Fault :=
  let stopped := { s with fault := some r }
  match r with
  | .illegalOpcode op pc0 => .illegalOpcode op pc0 stopped
  | .invalidAddress a acc => .invalidAddress a acc stopped
  | .readOnlyMemory a => .readOnlyMemory a stopped

/-- A part of a step: it goes on with a value, or it raises a fault. -/
abbrev Run (α : Type) := Except Fault α

/-! ## Updates of the parts -/

/-- The state with another PPU. -/
def State.setPpu (s : State) (u : Ppu) : State := { s with ppu := u }

/-- The state with another cartridge state. -/
def State.setCart (s : State) (k : Cart) : State := { s with cart := k }

/-- The state after one more draw of a free value (log 5). -/
def State.drawn (s : State) : State := { s with draws := s.draws + 1 }

/-! ## Interrupt lines -/

/-- `TriggerIrq()` (R410): a request made while `P.I` is 1 is lost. -/
def State.triggerIrq (s : State) : State :=
  if s.cpu.p.i then s else { s with cpu := { s.cpu with irqPending := true } }

/-- `TriggerNmi()` (R411). -/
def State.triggerNmi (s : State) : State :=
  { s with cpu := { s.cpu with nmiPending := true, nmiDelay := nmiDelayPolls } }

/-- `NmiChange()` (R550): an NMI on each rising edge of `vblank and ctrlNmiEnable`. -/
def State.nmiChange (s : State) : State :=
  let new := s.ppu.vblank && s.ppu.ctrl.nmiEnable
  let s := if new && !s.ppu.nmiLine then s.triggerNmi else s
  s.setPpu { s.ppu with nmiLine := new }

/-! ## The PPU bus -/

/-- `PaletteIndex(a)` for `a` in `0x3F00`–`0x3FFF` (R107). -/
def paletteIndex (a : Nat) : Nat :=
  let i := (a - 0x3F00) % 32
  if i = 16 ∨ i = 20 ∨ i = 24 ∨ i = 28 then i - 16 else i

/-- `PpuRead(addr)` (R105). It has no side effect and raises no fault in any variant (log 22). -/
def State.ppuRead (s : State) (addr : Nat) : Byte :=
  let a := addr % 0x4000
  if a < 0x2000 then s.cart.chrRead a
  else if a < 0x3F00 then s.ppu.vram.read (s.cart.vramIndex a)
  else s.ppu.palette.read (paletteIndex a)

/-- `PpuWrite(addr, v)` (R106). -/
def State.ppuWrite (s : State) (addr : Nat) (v : Byte) : Run State :=
  let a := addr % 0x4000
  if a < 0x2000 then
    match s.cart.chrWrite a v with
    | some k => .ok (s.setCart k)
    | none => .error (s.raise (.readOnlyMemory (BitVec.ofNat 16 a)))
  else if a < 0x3F00 then .ok (s.setPpu { s.ppu with vram := s.ppu.vram.write (s.cart.vramIndex a) v })
  else .ok (s.setPpu { s.ppu with palette := s.ppu.palette.write (paletteIndex a) v })

/-- `IncrementV()` (R518). -/
def Ppu.incrementV (u : Ppu) : Ppu := { u with v := u.v + (if u.ctrl.increment32 then 32 else 1) }

/-! ## Register writes -/

/-- Write `$2000` (R507). -/
def State.writePpuCtrl (s : State) (d : Byte) : State :=
  (s.setPpu { s.ppu with
    ctrl := { nametable := d.extractLsb' 0 2, increment32 := d.getLsbD 2, spriteTable := d.getLsbD 3,
              bgTable := d.getLsbD 4, sprite16 := d.getLsbD 5, masterSlave := d.getLsbD 6,
              nmiEnable := d.getLsbD 7 },
    t := (s.ppu.t &&& 0x73FF) ||| ((d.extractLsb' 0 2).zeroExtend 15 <<< 10) }).nmiChange

/-- Write `$2001` (R508). -/
def Ppu.writeMask (u : Ppu) (d : Byte) : Ppu :=
  { u with mask := { greyscale := d.getLsbD 0, showBgLeft := d.getLsbD 1, showSpritesLeft := d.getLsbD 2,
                     showBg := d.getLsbD 3, showSprites := d.getLsbD 4, emphasis := d.extractLsb' 5 3 } }

/-- Write `$2003` (R511). -/
def Ppu.writeOamAddr (u : Ppu) (d : Byte) : Ppu := { u with oamAddr := d }

/-- Write `$2004` (R513), and each transfer of OAM-DMA (R90). -/
def Ppu.writeOamData (u : Ppu) (d : Byte) : Ppu :=
  { u with oam := u.oam.write u.oamAddr.toNat d, oamAddr := u.oamAddr + 1 }

/-- Write `$2005` (R514). -/
def Ppu.writeScroll (u : Ppu) (d : Byte) : Ppu :=
  if u.w = false then
    { u with t := (u.t &&& 0x7FE0) ||| (d >>> 3).zeroExtend 15, fineX := d.extractLsb' 0 3, w := true }
  else
    { u with t := (u.t &&& 0x0C1F) ||| ((d &&& 0x07).zeroExtend 15 <<< 12) ||| ((d &&& 0xF8).zeroExtend 15 <<< 2),
             w := false }

/-- Write `$2006` (R515). -/
def Ppu.writeAddr (u : Ppu) (d : Byte) : Ppu :=
  if u.w = false then { u with t := (u.t &&& 0x00FF) ||| ((d &&& 0x3F).zeroExtend 15 <<< 8), w := true }
  else
    let t := (u.t &&& 0x7F00) ||| d.zeroExtend 15
    { u with t := t, v := t, w := false }

/-- Write `$2007` (R517): the increment follows a write that does not fault. -/
def State.writePpuData (s : State) (d : Byte) : Run State := do
  let s ← s.ppuWrite s.ppu.v.toNat d
  pure (s.setPpu s.ppu.incrementV)

/-- `PpuRegWrite(r, d)` (R506): first `lastWrite <- d` (R503), then the register's own effect. -/
def State.ppuRegWrite (s : State) (r : Nat) (d : Byte) : Run State :=
  let s := s.setPpu { s.ppu with lastWrite := d }
  match r with
  | 0 => .ok (s.writePpuCtrl d)
  | 1 => .ok (s.setPpu (s.ppu.writeMask d))
  | 2 => .ok s
  | 3 => .ok (s.setPpu (s.ppu.writeOamAddr d))
  | 4 => .ok (s.setPpu (s.ppu.writeOamData d))
  | 5 => .ok (s.setPpu (s.ppu.writeScroll d))
  | 6 => .ok (s.setPpu (s.ppu.writeAddr d))
  | _ => s.writePpuData d

/-! ## Register reads -/

/-- The composed status byte of a `$2002` read (R509). -/
def Ppu.status (u : Ppu) : Byte :=
  BitVec.ofBool u.vblank ++ BitVec.ofBool u.spriteZeroHit ++ BitVec.ofBool u.spriteOverflow ++
    u.lastWrite.extractLsb' 0 5

/-- Read `$2002` (R509). -/
def State.readPpuStatus (s : State) : Byte × State :=
  let r := s.ppu.status
  let s := (s.setPpu { s.ppu with vblank := false }).nmiChange
  (r, s.setPpu { s.ppu with w := false })

/-- Read `$2004` (R512). -/
def Ppu.readOamData (u : Ppu) : Byte := u.oam.read u.oamAddr.toNat

/-- Read `$2007` (R516). -/
def State.readPpuData (s : State) : Byte × State :=
  let a := s.ppu.v.toNat % 0x4000
  if a < 0x3F00 then
    (s.ppu.readBuffer, s.setPpu ({ s.ppu with readBuffer := s.ppuRead a } : Ppu).incrementV)
  else
    (s.ppuRead a, s.setPpu ({ s.ppu with readBuffer := s.ppuRead (a - 0x1000) } : Ppu).incrementV)

/-- `PpuRegRead(r)` (R505). A write-only register returns a free value (R504, log 5). -/
def State.ppuRegRead (s : State) (r : Nat) : Byte × State :=
  match r with
  | 2 => s.readPpuStatus
  | 4 => (s.ppu.readOamData, s)
  | 7 => s.readPpuData
  | _ => (Config.ppuWoRead s.draws, s.drawn)

end Sys2Proof.Machine
end

