-- ==== Sys2Proof/Machine/Ops.lean ====
section
/-! DEFINITION. The CPU bus and its devices (spec/20_memory.md R80 to R93), the stack (spec/41_transfer_stack.md R220),
interrupt entry and return (spec/60_exceptions.md R412, R413; spec/44_control_flow.md R283, R284). -/

namespace Sys2Proof.Machine

open Sys2Proof

/-! ## The controller port (R91, R92) -/

/-- The eight buttons of a byte, bit 0 = A up to bit 7 = Right (R92's order). -/
def Buttons.ofByte (v : Byte) : Buttons :=
  { btnA := v.getLsbD 0, btnB := v.getLsbD 1, select := v.getLsbD 2, start := v.getLsbD 3, up := v.getLsbD 4,
    down := v.getLsbD 5, left := v.getLsbD 6, right := v.getLsbD 7 }

/-- `ctrlButtons[k]` (R92). -/
def Buttons.get (b : Buttons) : Nat → Bool
  | 0 => b.btnA
  | 1 => b.btnB
  | 2 => b.select
  | 3 => b.start
  | 4 => b.up
  | 5 => b.down
  | 6 => b.left
  | _ => b.right

/-- `HostButtons()` (R91, R705): the next queued input, or a free value when none is queued (log 6). -/
def State.hostButtons (s : State) : Buttons × State :=
  match s.buttonInputs with
  | b :: rest => (b, { s with buttonInputs := rest })
  | [] => (Buttons.ofByte (Config.hostButtons s.draws), s.drawn)

/-- `ControllerWrite(v)` (R91). -/
def State.controllerWrite (s : State) (v : Byte) : State :=
  if v.getLsbD 0 then
    let r := s.hostButtons
    { r.2 with bus := { r.2.bus with ctrlButtons := r.1, ctrlIndex := 0 } }
  else s

/-- `ControllerRead()` (R92). Past the eighth button bit 0 is a free value (log 5). -/
def State.controllerRead (s : State) : Byte × State :=
  if s.bus.ctrlIndex < 8 then
    ((bit (s.bus.ctrlButtons.get s.bus.ctrlIndex)).zeroExtend 8,
      { s with bus := { s.bus with ctrlIndex := s.bus.ctrlIndex + 1 } })
  else ((bit (Config.ctrlTail s.draws)).zeroExtend 8, s.drawn)

/-! ## The CPU bus -/

/-- The index in `ram` of a CPU address below `0x2000` (R83). -/
def ramIndex (a : Word) : Nat := a.toNat % 0x800

/-- The PPU register that a CPU address in `0x2000`–`0x3FFF` selects (R84). -/
def ppuReg (a : Word) : Nat := (a - 0x2000).toNat % 8

/-- `MemRead(addr)` (R81). -/
def memRead (a : Word) (s : State) : Run (Byte × State) :=
  if a < 0x2000 then .ok (s.bus.ram.read (ramIndex a), s)
  else if a < 0x4000 then .ok (s.ppuRegRead (ppuReg a))
  else if a = 0x4016 then .ok s.controllerRead
  else if a < 0x4020 then .ok (0, s)
  else
    match s.cart.cpuRead a with
    | some b => .ok (b, s)
    | none => .error (s.raise (.invalidAddress a .read))

/-- The transfers of OAM-DMA from page `page` (R90): `n` of them, the first from offset `i`. -/
def dmaCopy (page : Byte) : Nat → Nat → State → Run State
  | 0, _, s => .ok s
  | n + 1, i, s => do
    let (b, s) ← memRead (wordOf page (BitVec.ofNat 8 i)) s
    dmaCopy page n (i + 1) (s.setPpu (s.ppu.writeOamData b))

/-- `OamDma(v)` (R90): 256 bus reads into OAM, then the stall, longer when `cycles` is odd. -/
def oamDma (page : Byte) (s : State) : Run State := do
  let s ← dmaCopy page 256 0 s
  pure { s with cpu := { s.cpu with
    idle := s.cpu.idle + (if s.cpu.cycles % 2 = 1 then dmaStallOdd else dmaStallEven) } }

/-- The state with another RAM. -/
def State.setRam (s : State) (m : Memory) : State := { s with bus := { s.bus with ram := m } }

/-- `MemWrite(addr, v)` (R82). -/
def memWrite (a : Word) (v : Byte) (s : State) : Run State :=
  if a < 0x2000 then .ok (s.setRam (s.bus.ram.write (ramIndex a) v))
  else if a < 0x4000 then s.ppuRegWrite (ppuReg a) v
  else if a = 0x4014 then oamDma v s
  else if a = 0x4016 then .ok (s.controllerWrite v)
  else if a < 0x4020 then .ok s
  else
    match s.cart.cpuWrite a v with
    | some k => .ok (s.setCart k)
    | none => .error (s.raise (.invalidAddress a .write))

/-- The byte of storage at a CPU address, read without any side effect: RAM, PRG-RAM or the PRG-ROM bank in place. None where
the address selects a device, a stub or nothing (R80). -/
def peek (a : Word) (s : State) : Option Byte :=
  if a < 0x2000 then some (s.bus.ram.read (ramIndex a))
  else if a < 0x4020 then none
  else s.cart.cpuRead a

/-- `MemRead16(addr)` (R9): low byte first. -/
def memRead16 (a : Word) (s : State) : Run (Word × State) := do
  let (l, s) ← memRead a s
  let (h, s) ← memRead (a + 1) s
  pure (wordOf h l, s)

/-! ## The stack (R220) -/

/-- The stack slot that `S` points at: always in page 1 (R24, R220). -/
def stackAddr (sp : Byte) : Word := wordOf 0x01 sp

/-- `Push(v)` (R220). -/
def push (v : Byte) (s : State) : Run State := do
  let s ← memWrite (stackAddr s.cpu.s) v s
  pure (s.setS (s.cpu.s - 1))

/-- `Pull()` (R220). -/
def pull (s : State) : Run (Byte × State) :=
  let s := s.setS (s.cpu.s + 1)
  memRead (stackAddr s.cpu.s) s

/-- A word is pushed high byte first (R94, R220). -/
def pushWord (w : Word) (s : State) : Run State := do
  let s ← push (hiByte w) s
  push (loByte w) s

/-- A word is pulled low byte first (R94, R220). -/
def pullWord (s : State) : Run (Word × State) := do
  let (l, s) ← pull s
  let (h, s) ← pull s
  pure (wordOf h l, s)

/-! ## Interrupt entry and return -/

/-- The interrupt entry sequence (R413, R284): push the return address, push `StatusByte(b4)`, set I, load PC from the
vector. IRQ and NMI service use `b4` = 0 and add their cycles; BRK uses `b4` = 1. -/
def enterInterrupt (b4 : Bool) (vector : Word) (s : State) : Run State := do
  let s ← pushWord s.cpu.pc s
  let s ← push (s.cpu.p.statusByte b4) s
  let (target, s) ← memRead16 vector (s.setP { s.cpu.p with i := true })
  pure (s.setPc target)

/-- `Service(vector)` (R413). -/
def service (vector : Word) (s : State) : Run State := do
  let s ← enterInterrupt false vector s
  pure (s.charge intCycles)

/-- Return from an interrupt (R283, R417): status, then PC, with no adjustment. -/
def returnFromInterrupt (s : State) : Run State := do
  let (v, s) ← pull s
  let (target, s) ← pullWord (s.setP (s.cpu.p.setStatus v))
  pure (s.setPc target)

/-- The IRQ half of `InterruptPoll()` (R412): serviced only if `P.I` is 0, cleared either way. -/
def pollIrq (s : State) : Run State := do
  let s ← (if s.cpu.irqPending && !s.cpu.p.i then service irqVector s else .ok s)
  pure { s with cpu := { s.cpu with irqPending := false } }

/-- The NMI half of `InterruptPoll()` (R412): skipped while the delay runs, cleared only when serviced. -/
def pollNmi (s : State) : Run State :=
  if s.cpu.nmiPending then
    if s.cpu.nmiDelay > 0 then .ok { s with cpu := { s.cpu with nmiDelay := s.cpu.nmiDelay - 1 } }
    else do
      let s ← service nmiVector s
      pure { s with cpu := { s.cpu with nmiPending := false } }
  else .ok s

/-- `InterruptPoll()` (R412): IRQ first, then NMI (R415). -/
def interruptPoll (s : State) : Run State := do
  let s ← pollIrq s
  pollNmi s

end Sys2Proof.Machine
end

