-- ==== Sys2Proof/Machine/Operands.lean ====
section
/-! DEFINITION. The 13 addressing modes (spec/30_encoding.md R142 to R155) and the frame every instruction runs in (R156
steps 5 to 7). The operand bytes have been fetched before (log 16); pointers are read here. -/

namespace Sys2Proof.Machine

open Sys2Proof

/-- What resolving a mode yields (R142 to R154): the effective address, the un-indexed base, and whether a page was crossed. -/
structure Resolved where
  ea : Word
  base : Word
  crossed : Bool
deriving DecidableEq, Repr

/-- A resolved address without indexing. -/
def Resolved.plain (a : Word) : Resolved := { ea := a, base := a, crossed := false }

/-- A 16-bit indexed address (R150, R151, R154, R155): the sum wraps at 16 bits, `crossed` compares bits 15:8. -/
def Resolved.indexed (base : Word) (i : Byte) : Resolved :=
  { ea := base + zext16 i, base := base, crossed := hiByte (base + zext16 i) != hiByte base }

/-- A 16-bit pointer whose second byte is fetched from the same page as the first (R152 to R154). -/
def readPointer (p : Word) (s : State) : Run (Word × State) := do
  let (l, s) ← memRead p s
  let (h, s) ← memRead (wordOf (hiByte p) (loByte p + 1)) s
  pure (wordOf h l, s)

/-- Resolve a mode (R142 to R154), with `PC` still at the opcode byte, `PC0`. -/
def resolve (o : Operand) (s : State) : Run (Resolved × State) :=
  match o with
  | .imp => .ok (.plain 0, s)
  | .acc => .ok (.plain 0, s)
  | .imm _ => .ok (.plain (s.cpu.pc + 1), s)
  | .zp z => .ok (.plain (zext16 z), s)
  | .zpx z => .ok (.plain (zext16 (z + s.cpu.x)), s)
  | .zpy z => .ok (.plain (zext16 (z + s.cpu.y)), s)
  | .rel d => .ok (.plain (s.cpu.pc + 2 + sext16 d), s)
  | .abs a => .ok (.plain a, s)
  | .abx a => .ok (.indexed a s.cpu.x, s)
  | .aby a => .ok (.indexed a s.cpu.y, s)
  | .ind p => do
    let (a, s) ← readPointer p s
    pure (.plain a, s)
  | .izx z => do
    let (a, s) ← readPointer (zext16 (z + s.cpu.x)) s
    pure (.plain a, s)
  | .izy z => do
    let (a, s) ← readPointer (zext16 z) s
    pure (.indexed a s.cpu.y, s)

/-- The data read of a handler: A for `acc` (R143), the fetched operand byte for `imm` (R144), else `MemRead(ea)`. -/
def readOperand (o : Operand) (r : Resolved) (s : State) : Run (Byte × State) :=
  match o with
  | .acc => .ok (s.cpu.a, s)
  | .imm v => .ok (v, s)
  | _ => memRead r.ea s

/-- The data write of a handler: A for `acc` (R143), else `MemWrite(ea, v)`. -/
def writeOperand (o : Operand) (r : Resolved) (v : Byte) (s : State) : Run State :=
  match o with
  | .acc => .ok (s.setA v)
  | _ => memWrite r.ea v s

/-- The operation part of an instruction, step 7 of R156: it runs with the mode resolved and `PC` already advanced. -/
abbrev Handler := Operand → Resolved → State → Run State

/-- Step 6 of R156: advance `PC` by the size, charge base and page-cross cycles (R155). -/
def State.advance (s : State) (size cycles : Nat) (pageCross : Bool) (r : Resolved) : State :=
  (s.setPc (s.cpu.pc + BitVec.ofNat 16 size)).charge (cycles + if pageCross && r.crossed then 1 else 0)

/-- The outcome of a run. -/
def finish (r : Run State) : Host.Outcome State Fault Refusal :=
  match r with
  | .ok s => .next s
  | .error f => .fault f

/-- An instruction, steps 5 to 7 of R156: resolve the mode, advance, run the handler. -/
def instruction (o : Operand) (size cycles : Nat) (pageCross : Bool) (h : Handler) (s : State) :
    Host.Outcome State Fault Refusal :=
  finish (do
    let (r, s) ← resolve o s
    h o r (s.advance size cycles pageCross r))

/-- An opcode with no handler (R156 step 4, R159): `PC` is still `PC0`, nothing is charged. -/
def noHandler (op : Byte) (s : State) : Host.Outcome State Fault Refusal :=
  .fault (s.raise (.illegalOpcode op s.cpu.pc))

/-- An instruction of class extra (R160): it runs when `UNOFFICIAL_EXTRAS` is true and has no handler when it is false. -/
def extra (op : Byte) (run : State → Host.Outcome State Fault Refusal) (s : State) :
    Host.Outcome State Fault Refusal :=
  if s.unofficialExtras then run s else noHandler op s

end Sys2Proof.Machine
end

