-- ==== Sys2Proof/Machine/Render.lean ====
section
/-! DEFINITION. The PPU's own step: raster counter, background pipeline, sprites, pixel output, VBlank (spec/61_ppu.md R501,
R520 to R547), and the mapper's step (spec/62_mappers.md R605, R675). -/

namespace Sys2Proof.Machine

open Sys2Proof

/-! ## Positions (R501) -/

/-- `renderingEnabled` (R40, R501). -/
def Ppu.renderingEnabled (u : Ppu) : Bool := u.mask.showBg || u.mask.showSprites

/-- `visibleLine` (R501). -/
def visibleLine (line : Nat) : Bool := decide (line < 240)

/-- `preLine` (R501): the pre-render line is 261. -/
def preLine (line : Nat) : Bool := decide (line = 261)

/-- `renderLine` (R501). -/
def renderLine (line : Nat) : Bool := visibleLine line || preLine line

/-- `visibleCycle` (R501). -/
def visibleCycle (cyc : Nat) : Bool := decide (1 ≤ cyc) && decide (cyc ≤ 256)

/-- `fetchCycle` (R501): a visible cycle or a pre-fetch cycle. -/
def fetchCycle (cyc : Nat) : Bool := visibleCycle cyc || (decide (321 ≤ cyc) && decide (cyc ≤ 336))

/-! ## The raster counter -/

/-- `FrameComplete()` (R522): `f` flips, and the draw callback receives the frame buffer as it stands (log 13). -/
def State.frameComplete (s : State) : State :=
  { s.setPpu { s.ppu with f := !s.ppu.f } with lastFrame := some s.ppu.framebuffer }

/-- Whether this step skips position (261, 340) (R521). -/
def Ppu.skipsDot (u : Ppu) : Bool := u.renderingEnabled && u.f && decide (u.scanline = 261) && decide (u.cycle = 339)

/-- `Tick()` (R521). -/
def State.tick (s : State) : State :=
  if s.ppu.skipsDot then (s.setPpu { s.ppu with cycle := 0, scanline := 0 }).frameComplete
  else if s.ppu.cycle + 1 > 340 then
    if s.ppu.scanline + 1 > 261 then (s.setPpu { s.ppu with cycle := 0, scanline := 0 }).frameComplete
    else s.setPpu { s.ppu with cycle := 0, scanline := s.ppu.scanline + 1 }
  else s.setPpu { s.ppu with cycle := s.ppu.cycle + 1 }

/-! ## The background pipeline -/

/-- `FetchNametableByte()` (R530). -/
def State.fetchNametable (s : State) : State :=
  s.setPpu { s.ppu with ntByte := s.ppuRead ((0x2000 : BitVec 15) ||| (s.ppu.v &&& 0x0FFF)).toNat }

/-- The attribute byte's address (R531). -/
def attributeAddr (v : BitVec 15) : BitVec 15 :=
  0x23C0 ||| (v &&& 0x0C00) ||| ((v >>> 4) &&& 0x38) ||| ((v >>> 2) &&& 0x07)

/-- The shift that selects the quadrant (R531): 0, 2, 4 or 6. -/
def attributeShift (v : BitVec 15) : Nat := (((v >>> 4) &&& 4) ||| (v &&& 2)).toNat

/-- `FetchAttributeByte()` (R531). -/
def State.fetchAttribute (s : State) : State :=
  s.setPpu { s.ppu with
    atBits := (s.ppuRead (attributeAddr s.ppu.v).toNat >>> attributeShift s.ppu.v).extractLsb' 0 2 }

/-- A pattern table's base (R507): `0x0000` or `0x1000`. -/
def tableBase (table : Bool) : Nat := if table then 0x1000 else 0

/-- The address of a background pattern's low plane row (R532). -/
def Ppu.patternAddr (u : Ppu) : Nat :=
  tableBase u.ctrl.bgTable + 16 * u.ntByte.toNat + (u.v.extractLsb' 12 3).toNat

/-- `FetchPatternLow()` (R532). -/
def State.fetchPatternLow (s : State) : State := s.setPpu { s.ppu with patLow := s.ppuRead s.ppu.patternAddr }

/-- `FetchPatternHigh()` (R533). -/
def State.fetchPatternHigh (s : State) : State :=
  s.setPpu { s.ppu with patHigh := s.ppuRead (s.ppu.patternAddr + 8) }

/-- The nibble of pixel `i` of the fetched tile, `i` = 0 the leftmost (R534). -/
def Ppu.tileNibble (u : Ppu) (i : Nat) : BitVec 4 :=
  u.atBits ++ BitVec.ofBool (u.patHigh.getLsbD (7 - i)) ++ BitVec.ofBool (u.patLow.getLsbD (7 - i))

/-- The 32 packed bits of the fetched tile, the leftmost pixel in the lowest nibble (R534). -/
def Ppu.tileData (u : Ppu) : BitVec 32 :=
  u.tileNibble 7 ++ u.tileNibble 6 ++ u.tileNibble 5 ++ u.tileNibble 4 ++
    u.tileNibble 3 ++ u.tileNibble 2 ++ u.tileNibble 1 ++ u.tileNibble 0

/-- `StoreTileData()` (R534): the high half of the shift register is replaced. -/
def Ppu.storeTile (u : Ppu) : Ppu := { u with tileShift := u.tileData ++ u.tileShift.extractLsb' 0 32 }

/-- The shift of every fetch cycle (R535). -/
def Ppu.shiftTiles (u : Ppu) : Ppu := { u with tileShift := u.tileShift >>> 4 }

/-- The fetch step of a fetch cycle (R520). -/
def State.fetchStep (s : State) (cyc : Nat) : State :=
  match cyc % 8 with
  | 1 => s.fetchNametable
  | 3 => s.fetchAttribute
  | 5 => s.fetchPatternLow
  | 7 => s.fetchPatternHigh
  | 0 => s.setPpu s.ppu.storeTile
  | _ => s

/-- `IncrementX()` (R536). -/
def incrementX (v : BitVec 15) : BitVec 15 :=
  if v &&& 0x001F = 31 then (v &&& 0x7FE0) ^^^ 0x0400 else v + 1

/-- `IncrementY()` (R537). -/
def incrementY (v : BitVec 15) : BitVec 15 :=
  if v &&& 0x7000 ≠ 0x7000 then v + 0x1000
  else
    let v := v &&& 0x0FFF
    let y := (v >>> 5) &&& 0x1F
    if y = 29 then (v ^^^ 0x0800) &&& 0x7C1F
    else if y = 31 then v &&& 0x7C1F
    else (v &&& 0x7C1F) ||| ((y + 1) <<< 5)

/-- `CopyX()` (R538). -/
def copyX (v t : BitVec 15) : BitVec 15 := (v &&& 0x7BE0) ||| (t &&& 0x041F)

/-- `CopyY()` (R539). -/
def copyY (v t : BitVec 15) : BitVec 15 := (v &&& 0x041F) ||| (t &&& 0x7BE0)

/-! ## Sprites -/

/-- The height of a sprite less one (R540): 15 for 8×16, else 7. -/
def Ppu.spriteHeight (u : Ppu) : Nat := if u.ctrl.sprite16 then 15 else 7

/-- The four OAM bytes from index `i` (R36, R540). -/
def Ppu.oamSprite (u : Ppu) (i : Nat) : Sprite :=
  { y := u.oam.read i, tile := u.oam.read (i + 1), attr := u.oam.read (i + 2), x := u.oam.read (i + 3) }

/-- Whether a sprite with Y byte `y` intersects scanline `line` (R540): `0 <= line - y <= h`. -/
def spriteOnLine (line h : Nat) (y : Byte) : Bool := decide (y.toNat ≤ line) && decide (line - y.toNat ≤ h)

/-- The scan of `EvaluateSprites()` (R540) from OAM index `i`, entry `k` of the scan, with `n` sprites found. `fuel` bounds the
64 entries of OAM. -/
def evaluateFrom (line : Nat) : (fuel i k n : Nat) → Ppu → Ppu
  | 0, _, _, n, u => { u with spriteCount := n }
  | fuel + 1, i, k, n, u =>
    if i + 3 ≤ 255 then
      if spriteOnLine line u.spriteHeight (u.oam.read i) then
        if n = 8 then { u with spriteOverflow := true, spriteCount := n }
        else
          evaluateFrom line fuel (i + 4) (k + 1) (n + 1)
            { u with sprites := u.sprites.setIfInBounds n (u.oamSprite i),
                     spriteIndex := u.spriteIndex.setIfInBounds n k }
      else evaluateFrom line fuel (i + 4) (k + 1) n u
    else { u with spriteCount := n }

/-- `EvaluateSprites()` (R540), at the current OAM address. -/
def Ppu.evaluateSprites (u : Ppu) (line : Nat) : Ppu := evaluateFrom line 64 u.oamAddr.toNat 0 0 u

/-- `sprites[k]` (R37). -/
def Ppu.spriteAt (u : Ppu) (k : Nat) : Sprite := u.sprites[k]?.getD ⟨0, 0, 0, 0⟩

/-- `SpritePatternPixel(tile, attr, row, off)` (R543): the two colour bits. -/
def State.spritePatternPixel (s : State) (p : Sprite) (row off : Nat) : BitVec 2 :=
  let row := if p.attr.getLsbD 7 then s.ppu.spriteHeight - row else row
  let base :=
    if s.ppu.ctrl.sprite16 then
      let tile := p.tile.toNat / 2 * 2
      tableBase (p.tile.getLsbD 0) + (if row > 7 then 16 * (tile + 1) + (row - 8) else 16 * tile + row)
    else tableBase s.ppu.ctrl.spriteTable + 16 * p.tile.toNat + row
  let b := if p.attr.getLsbD 6 then off else 7 - off
  BitVec.ofBool ((s.ppuRead (base + 8)).getLsbD b) ++ BitVec.ofBool ((s.ppuRead base).getLsbD b)

/-- The opaque pixel of buffer entry `k` at line `line`, column `x`, if it has one (R542): palette and colour bits. -/
def State.spriteEntryPixel (s : State) (line x k : Nat) : Option (BitVec 4) :=
  let p := s.ppu.spriteAt k
  if p.x.toNat ≤ x ∧ x - p.x.toNat ≤ 7 ∧ 1 ≤ line ∧ spriteOnLine (line - 1) s.ppu.spriteHeight p.y = true then
    let colour := s.spritePatternPixel p (line - 1 - p.y.toNat) (x - p.x.toNat)
    if colour = 0 then none else some (p.attr.extractLsb' 0 2 ++ colour)
  else none

/-- `SpritePixel()` (R542): buffer index and nibble of the first sprite with an opaque pixel, else (0, 0). -/
def State.spritePixel (s : State) (line x : Nat) : Nat × BitVec 4 :=
  if s.ppu.mask.showSprites = false then (0, 0)
  else if x < 8 ∧ s.ppu.mask.showSpritesLeft = false then (0, 0)
  else
    match (List.range s.ppu.spriteCount).findSome? (fun k => (s.spriteEntryPixel line x k).map (fun c => (k, c))) with
    | some r => r
    | none => (0, 0)

/-! ## Pixel output -/

/-- `BackgroundPixel()` (R544). -/
def Ppu.backgroundPixel (u : Ppu) (x : Nat) : BitVec 4 :=
  if u.mask.showBg = false then 0
  else if x < 8 ∧ u.mask.showBgLeft = false then 0
  else (u.tileShift >>> (4 * u.fineX.toNat)).extractLsb' 0 4

/-- The palette entry 0..31 of a pixel, from the background nibble, the sprite nibble and the sprite's priority bit (R545). -/
def pixelColour (bg sp : BitVec 4) (behind : Bool) : Nat :=
  if bg.toNat % 4 = 0 then (if sp.toNat % 4 = 0 then 0 else 0x10 + sp.toNat)
  else if sp.toNat % 4 = 0 then bg.toNat
  else if behind then bg.toNat else 0x10 + sp.toNat

/-- `RenderPixel()` at line `line`, column `x` (R545, R546). -/
def State.renderPixel (s : State) (line x : Nat) : State :=
  let bg := s.ppu.backgroundPixel x
  let sp := s.spritePixel line x
  let opaqueBoth := bg.toNat % 4 != 0 && sp.2.toNat % 4 != 0
  let hit := opaqueBoth && (s.ppu.spriteIndex[sp.1]?.getD 0 == 0)
  let colour := pixelColour bg sp.2 ((s.ppu.spriteAt sp.1).attr.getLsbD 5)
  s.setPpu { s.ppu with
    spriteZeroHit := s.ppu.spriteZeroHit || hit,
    framebuffer := s.ppu.framebuffer.write (256 * line + x) (s.ppuRead (0x3F00 + colour) &&& 0x3F) }

/-! ## The per-cycle state machine -/

/-- The scroll updates of a render line (R520, R536 to R538), and `CopyY` on the pre-render line (R539), in R520's order. -/
def Ppu.scrollStep (u : Ppu) (line cyc : Nat) : Ppu :=
  let u := if preLine line && (decide (280 ≤ cyc) && decide (cyc ≤ 304)) then { u with v := copyY u.v u.t } else u
  if renderLine line then
    let u := if fetchCycle cyc && decide (cyc % 8 = 0) then { u with v := incrementX u.v } else u
    let u := if cyc = 256 then { u with v := incrementY u.v } else u
    if cyc = 257 then { u with v := copyX u.v u.t } else u
  else u

/-- The sprite step of cycle 257 (R540, R541). -/
def Ppu.spriteStep (u : Ppu) (line cyc : Nat) : Ppu :=
  if cyc = 257 then (if visibleLine line then u.evaluateSprites line else { u with spriteCount := 0 }) else u

/-- What a dot does when rendering is enabled (R520). -/
def State.renderDot (s : State) (line cyc : Nat) : State :=
  let s := if visibleLine line && visibleCycle cyc then s.renderPixel line (cyc - 1) else s
  let s := if renderLine line && fetchCycle cyc then (s.setPpu s.ppu.shiftTiles).fetchStep cyc else s
  s.setPpu ((s.ppu.scrollStep line cyc).spriteStep line cyc)

/-- The VBlank logic, which does not depend on rendering (R520). -/
def State.vblankStep (s : State) (line cyc : Nat) : State :=
  let s := if line = 241 ∧ cyc = 1 then (s.setPpu { s.ppu with vblank := true }).nmiChange else s
  if line = 261 ∧ cyc = 1 then
    (s.setPpu { s.ppu with vblank := false, spriteOverflow := false, spriteZeroHit := false }).nmiChange
  else s

/-- `Ppu.Step()` (R520): the new position, then what happens there. -/
def State.ppuStep (s : State) : State :=
  let s := s.tick
  let line := s.ppu.scanline
  let cyc := s.ppu.cycle
  let s := if s.ppu.renderingEnabled then s.renderDot line cyc else s
  s.vblankStep line cyc

/-! ## The mapper's step -/

/-- Whether the MMC3 counter is clocked at this position (R675). -/
def Ppu.clocksMmc3 (u : Ppu) : Bool :=
  decide (u.cycle = mmc3IrqCycle) && renderLine u.scanline && u.renderingEnabled

/-- One clock of the MMC3 counter (R675). -/
def Mmc3.clock (r : Mmc3) : Mmc3 :=
  { r with irqCounter := if r.irqCounter = 0 then r.irqLatch else r.irqCounter - 1 }

/-- Whether that clock calls `TriggerIrq()` (R674, R675): the counter is decremented to 0 and the IRQ is enabled. -/
def Mmc3.clockTriggers (r : Mmc3) : Bool := r.irqEnable && decide (r.irqCounter = 1)

/-- `Mapper.Step()` (R605, R675): a no-op but for MMC3. -/
def State.mapperStep (s : State) : State :=
  match s.cart.regs with
  | .mmc3 r =>
    if s.ppu.clocksMmc3 then
      let s := s.setCart { s.cart with regs := .mmc3 r.clock }
      if r.clockTriggers then s.triggerIrq else s
    else s
  | _ => s

end Sys2Proof.Machine
end

