-- ==== Sys2Proof/Machine/Console.lean ====
section
/-! DEFINITION. The parts of a `MachineStep` (spec/63_console.md R700) and of `Cpu.Step()` (spec/30_encoding.md R156) around
the execution of an instruction, and the host's operations between steps (R705 to R708). -/

namespace Sys2Proof.Machine

open Sys2Proof

/-! ## `Cpu.Step()` around the instruction -/

/-- An idle step (R156 step 1): one stall cycle is served. -/
def State.idleStep (s : State) : State := ({ s with cpu := { s.cpu with idle := s.cpu.idle - 1 } } : State).charge 1

/-- Whether an opcode is dispatched to a handler (R158 to R160). -/
def hasHandler (extras : Bool) (op : Byte) : Bool := ((shapeOf op).instr 0 0).wellFormed extras

/-- Read `n` bytes at rising addresses (R96, R141). -/
def readBytes : Nat → Word → State → Run (List Byte × State)
  | 0, _, s => .ok ([], s)
  | n + 1, a, s => do
    let (b, s) ← memRead a s
    let (bs, s) ← readBytes n (a + 1) s
    pure (b :: bs, s)

/-- Fetch the instruction at `PC` (R156 steps 3 to 5): the opcode, then, if it has a handler, its operand bytes; an opcode with
none is detected before any operand byte is read (R403). -/
def fetch (s : State) : Run (Instr × State) := do
  let pc0 := s.cpu.pc
  let (op, s) ← memRead pc0 s
  if hasHandler s.unofficialExtras op then
    let (bs, s) ← readBytes (shapeOf op).operandBytes (pc0 + 1) s
    match decode (op :: bs) with
    | .ok (i, _) => pure (i, s)
    | .error _ => .error (s.raise (.illegalOpcode op pc0))
  else .error (s.raise (.illegalOpcode op pc0))

/-- Steps 2 to 5 of R156: poll the interrupts, then fetch. -/
def pollAndFetch (s : State) : Run (Instr × State) := do
  let s ← interruptPoll s
  fetch s

/-! ## The schedule (R700) -/

/-- `n` pairs of `Ppu.Step()` and `Mapper.Step()` (R700, D37). -/
def State.devices : Nat → State → State
  | 0, s => s
  | n + 1, s => State.devices n s.ppuStep.mapperStep

/-- The dots of a `MachineStep` (R700): three for each CPU cycle that `Cpu.Step()` took from state `before`. -/
def State.runDevices (s before : State) : State :=
  State.devices (dotsPerCycle * (s.cpu.cycles - before.cpu.cycles)) s

/-- A faulted machine never steps again (R401, R702): its outcome is the same fault. -/
def State.stopped (s : State) (r : FaultRecord) : Host.Outcome State Fault Refusal := .fault (s.raise r)

/-- What the schedule adds after an instruction: the dots of its cycles, unless it stopped (R702). -/
def afterInstruction (before : State) (o : Host.Outcome State Fault Refusal) : Host.Outcome State Fault Refusal :=
  match o with
  | .next s => .next (s.runDevices before)
  | .fault f => .fault f
  | .refused r => .refused r

/-! ## Host operations (R705 to R708), between steps only (R709) -/

/-- `Reset()` (R708) by the procedure of R450. The arrays keep their contents (R451). The vector is read through the mapper,
already reset; that read cannot fault. -/
def State.resetMachine (s : State) : State :=
  let k := s.cart.reset
  let vec (a : Word) : Byte := (k.cpuRead a).getD 0
  { s with
    cpu := Cpu.reset (wordOf (vec (resetVector + 1)) (vec resetVector))
    bus := { s.bus with ctrlButtons := Buttons.none, ctrlIndex := 0 }
    ppu := Ppu.reset s.ppu.oam s.ppu.vram s.ppu.palette
    cart := k
    fault := none }

/-- The host supplies the buttons of a coming latch (R705). -/
def State.queueButtons (s : State) (b : Buttons) : State := { s with buttonInputs := s.buttonInputs ++ [b] }

/-- `SaveState()` (R607, R706): a state is a value, so the snapshot is the state. -/
def State.saveState (s : State) : State := s

/-- Whether a snapshot was taken under the cartridge in place: same image, variant and CHR-ROM. -/
def State.sameCartridge (s snap : State) : Bool :=
  decide (s.cart.image = snap.cart.image) && decide (s.cart.regs.reset = snap.cart.regs.reset) &&
  (s.cart.image.usesChrRam || decide (s.cart.chr = snap.cart.chr))

/-- `LoadState(snap)` (R607, R706): every field of spec/10_state.md is the snapshot's. What is no field of it stays the
machine's: the fault, which only `Reset` and `LoadCartridge` clear (R401, R702), and by the model's choice `unofficialExtras`,
`draws`, `buttonInputs` and `lastFrame` (log 28). A snapshot of another cartridge is refused (log 18). -/
def State.loadState (s snap : State) : Option State :=
  if s.sameCartridge snap then some { s with cpu := snap.cpu, bus := snap.bus, ppu := snap.ppu, cart := snap.cart }
  else none

/-- Why the host's load fails before any step (R400, R707; log 18 for the last). -/
inductive LoadError where
  /-- `InvalidFormat`: the magic does not match. -/
  | invalidFormat
  /-- `UnsupportedMapper`: the number has no registered variant. -/
  | unsupportedMapper (number : Nat)
  /-- The image is shorter than its header says, or has no PRG bank: no launch state (R601, U18). -/
  | malformed
deriving DecidableEq, Repr

/-- Variant selection (R602), with the variant's registers at reset. -/
def MapperRegs.ofNumber : Nat → Option MapperRegs
  | 0 => some .nrom
  | 1 => some (MapperRegs.mmc1 ⟨0, 0, 0, 0, 0, 0⟩).reset
  | 2 => some (.uxrom 0)
  | 3 => some (.cnrom 0)
  | 4 => some (MapperRegs.mmc3 ⟨0, Vector.replicate 8 0, 0, 0, false⟩).reset
  | 7 => some (.axrom 0)
  | 11 => some (.colorDream 0 0)
  | 66 => some (.gxrom 0 0)
  | 185 => some (.mapper185 0)
  | _ => none

/-- The cartridge of an iNES image (R601, R707): the header decoded, the trainer skipped, PRG and CHR data taken. No cartridge comes
of a truncated image or one with no PRG bank (U18). DESIGN CHOICE (log 18): of such an image that names an unsupported mapper too,
the answer is `unsupportedMapper`; bytes left over after the CHR data are dropped. -/
def loadCartridge (image : List Byte) : Except LoadError Cart :=
  if image.take 4 ≠ [0x4E, 0x45, 0x53, 0x1A] then .error .invalidFormat
  else
    let prgBanks := (image.getD 4 0).toNat
    let chrBanks := (image.getD 5 0).toNat
    let flags6 := image.getD 6 0
    let flags7 := image.getD 7 0
    let number := ((flags7 &&& 0xF0) ||| (flags6 >>> 4)).toNat
    let body := image.drop (16 + if flags6.getLsbD 2 then 512 else 0)
    let prgLen := prgBanks * 16384
    let chrLen := chrBanks * 8192
    match MapperRegs.ofNumber number with
    | none => .error (.unsupportedMapper number)
    | some regs =>
      if prgBanks = 0 ∨ body.length < prgLen + chrLen ∨ image.length < 16 then .error .malformed
      else
        let mirroring := if flags6.getLsbD 0 then HeaderMirroring.vertical else HeaderMirroring.horizontal
        .ok { image := { prgRomBanks := prgBanks, chrBanks := chrBanks, headerMirroring := mirroring,
                         prgRom := Memory.ofBytes 0 (body.take prgLen) },
              chr := Memory.ofBytes 0 ((body.drop prgLen).take chrLen),
              prgRam := [], expRam := [], mirroring := mirroring.mirroring, regs := regs }

/-- `LoadCartridge` (R707): the machine with cartridge `k` in place, reset; the console's own arrays keep their contents (log 18). -/
def State.launch (s : State) (k : Cart) : State := ({ s with cart := k } : State).resetMachine

/-! ## Storing a word where the next instruction is fetched -/

/-- The state with byte `b` stored where the CPU address `a` reads from: RAM, PRG-RAM or the PRG-ROM bank in place. Nothing
changes where the address selects no storage. -/
def State.poke (s : State) (a : Word) (b : Byte) : State :=
  if a < 0x2000 then s.setRam (s.bus.ram.write (ramIndex a) b)
  else if a < 0x6000 then s
  else if a < 0x8000 then
    (if s.cart.regs.hasPrgRam then s.setCart { s.cart with prgRam := s.cart.prgRam.write (a.toNat - 0x6000) b } else s)
  else
    s.setCart { s.cart with image :=
      { s.cart.image with prgRom := s.cart.image.prgRom.write (s.cart.prgOffset a) b } }

/-- Whether an address is storage that `poke` can fill. -/
def State.storable (s : State) (a : Word) : Bool := (peek a s).isSome && (decide (a < 0x2000) || decide (0x8000 ≤ a) || s.cart.regs.hasPrgRam)

/-- The three bytes `b0`, `b1`, `b2` stored at `PC`. Where `PC` does not point into storage it is first moved to `0x0200`. -/
def State.placeAtPc (s : State) (b0 b1 b2 : Byte) : State :=
  let pc := s.cpu.pc
  let s := if s.storable pc && s.storable (pc + 1) && s.storable (pc + 2) then s else s.setPc 0x0200
  ((s.poke s.cpu.pc b0).poke (s.cpu.pc + 1) b1).poke (s.cpu.pc + 2) b2

/-- The state with nothing that would come before the next fetch: no stall, no pending interrupt, no fault. -/
def State.readyToFetch (s : State) : State :=
  { s with cpu := { s.cpu with idle := 0, irqPending := false, nmiPending := false, nmiDelay := 0 }, fault := none }

end Sys2Proof.Machine
end

