-- ==== Sys2Proof/Machine/Alu.lean ====
section
/-! DEFINITION. Logic, arithmetic and compare instructions (spec/42_alu.md). -/

namespace Sys2Proof.Machine

open Sys2Proof

/-- A gets `v`, Z and N from it: the end of AND, ORA, EOR and of the unofficial combinations (R241 to R243). -/
def State.logic (s : State) (v : Byte) : State := (s.setA v).setZN v

/-! ## AND -/

/-- AND (R241). -/
def andA : Handler := fun o r s => do
  let (m, s) ← readOperand o r s
  pure (s.logic (s.cpu.a &&& m))

/-- `0x21` izx (R241). -/
def execAndIzx (z : Byte) (s : State) : Host.Outcome State Fault Refusal :=
  instruction (.izx z) 2 6 false andA s

/-- `0x25` zp (R241). -/
def execAndZp (z : Byte) (s : State) : Host.Outcome State Fault Refusal :=
  instruction (.zp z) 2 3 false andA s

/-- `0x29` imm (R241). -/
def execAndImm (v : Byte) (s : State) : Host.Outcome State Fault Refusal :=
  instruction (.imm v) 2 2 false andA s

/-- `0x2D` abs (R241). -/
def execAndAbs (a : Word) (s : State) : Host.Outcome State Fault Refusal :=
  instruction (.abs a) 3 4 false andA s

/-- `0x31` izy (R241). -/
def execAndIzy (z : Byte) (s : State) : Host.Outcome State Fault Refusal :=
  instruction (.izy z) 2 5 true andA s

/-- `0x35` zpx (R241). -/
def execAndZpx (z : Byte) (s : State) : Host.Outcome State Fault Refusal :=
  instruction (.zpx z) 2 4 false andA s

/-- `0x39` aby (R241). -/
def execAndAby (a : Word) (s : State) : Host.Outcome State Fault Refusal :=
  instruction (.aby a) 3 4 true andA s

/-- `0x3D` abx (R241). -/
def execAndAbx (a : Word) (s : State) : Host.Outcome State Fault Refusal :=
  instruction (.abx a) 3 4 true andA s

/-! ## ORA -/

/-- ORA (R242). -/
def oraA : Handler := fun o r s => do
  let (m, s) ← readOperand o r s
  pure (s.logic (s.cpu.a ||| m))

/-- `0x01` izx (R242). -/
def execOraIzx (z : Byte) (s : State) : Host.Outcome State Fault Refusal :=
  instruction (.izx z) 2 6 false oraA s

/-- `0x05` zp (R242). -/
def execOraZp (z : Byte) (s : State) : Host.Outcome State Fault Refusal :=
  instruction (.zp z) 2 3 false oraA s

/-- `0x09` imm (R242). -/
def execOraImm (v : Byte) (s : State) : Host.Outcome State Fault Refusal :=
  instruction (.imm v) 2 2 false oraA s

/-- `0x0D` abs (R242). -/
def execOraAbs (a : Word) (s : State) : Host.Outcome State Fault Refusal :=
  instruction (.abs a) 3 4 false oraA s

/-- `0x11` izy (R242). -/
def execOraIzy (z : Byte) (s : State) : Host.Outcome State Fault Refusal :=
  instruction (.izy z) 2 5 true oraA s

/-- `0x15` zpx (R242). -/
def execOraZpx (z : Byte) (s : State) : Host.Outcome State Fault Refusal :=
  instruction (.zpx z) 2 4 false oraA s

/-- `0x19` aby (R242). -/
def execOraAby (a : Word) (s : State) : Host.Outcome State Fault Refusal :=
  instruction (.aby a) 3 4 true oraA s

/-- `0x1D` abx (R242). -/
def execOraAbx (a : Word) (s : State) : Host.Outcome State Fault Refusal :=
  instruction (.abx a) 3 4 true oraA s

/-! ## EOR -/

/-- EOR (R243). -/
def eorA : Handler := fun o r s => do
  let (m, s) ← readOperand o r s
  pure (s.logic (s.cpu.a ^^^ m))

/-- `0x41` izx (R243). -/
def execEorIzx (z : Byte) (s : State) : Host.Outcome State Fault Refusal :=
  instruction (.izx z) 2 6 false eorA s

/-- `0x45` zp (R243). -/
def execEorZp (z : Byte) (s : State) : Host.Outcome State Fault Refusal :=
  instruction (.zp z) 2 3 false eorA s

/-- `0x49` imm (R243). -/
def execEorImm (v : Byte) (s : State) : Host.Outcome State Fault Refusal :=
  instruction (.imm v) 2 2 false eorA s

/-- `0x4D` abs (R243). -/
def execEorAbs (a : Word) (s : State) : Host.Outcome State Fault Refusal :=
  instruction (.abs a) 3 4 false eorA s

/-- `0x51` izy (R243). -/
def execEorIzy (z : Byte) (s : State) : Host.Outcome State Fault Refusal :=
  instruction (.izy z) 2 5 true eorA s

/-- `0x55` zpx (R243). -/
def execEorZpx (z : Byte) (s : State) : Host.Outcome State Fault Refusal :=
  instruction (.zpx z) 2 4 false eorA s

/-- `0x59` aby (R243). -/
def execEorAby (a : Word) (s : State) : Host.Outcome State Fault Refusal :=
  instruction (.aby a) 3 4 true eorA s

/-- `0x5D` abx (R243). -/
def execEorAbx (a : Word) (s : State) : Host.Outcome State Fault Refusal :=
  instruction (.abx a) 3 4 true eorA s

/-! ## BIT -/

/-- BIT (R244): N and V come from the memory byte, Z from the and-result. -/
def bitTest : Handler := fun o r s => do
  let (m, s) ← readOperand o r s
  pure (s.setP { s.cpu.p with z := (s.cpu.a &&& m) == 0, v := m.getLsbD 6, n := m.getLsbD 7 })

/-- `0x24` zp (R244). -/
def execBitZp (z : Byte) (s : State) : Host.Outcome State Fault Refusal :=
  instruction (.zp z) 2 3 false bitTest s

/-- `0x2C` abs (R244). -/
def execBitAbs (a : Word) (s : State) : Host.Outcome State Fault Refusal :=
  instruction (.abs a) 3 4 false bitTest s

/-! ## ADC -/

/-- ADC (R245). -/
def adc : Handler := fun o r s => do
  let (m, s) ← readOperand o r s
  pure (s.addWithCarry m)

/-- `0x61` izx (R245). -/
def execAdcIzx (z : Byte) (s : State) : Host.Outcome State Fault Refusal :=
  instruction (.izx z) 2 6 false adc s

/-- `0x65` zp (R245). -/
def execAdcZp (z : Byte) (s : State) : Host.Outcome State Fault Refusal :=
  instruction (.zp z) 2 3 false adc s

/-- `0x69` imm (R245). -/
def execAdcImm (v : Byte) (s : State) : Host.Outcome State Fault Refusal :=
  instruction (.imm v) 2 2 false adc s

/-- `0x6D` abs (R245). -/
def execAdcAbs (a : Word) (s : State) : Host.Outcome State Fault Refusal :=
  instruction (.abs a) 3 4 false adc s

/-- `0x71` izy (R245). -/
def execAdcIzy (z : Byte) (s : State) : Host.Outcome State Fault Refusal :=
  instruction (.izy z) 2 5 true adc s

/-- `0x75` zpx (R245). -/
def execAdcZpx (z : Byte) (s : State) : Host.Outcome State Fault Refusal :=
  instruction (.zpx z) 2 4 false adc s

/-- `0x79` aby (R245). -/
def execAdcAby (a : Word) (s : State) : Host.Outcome State Fault Refusal :=
  instruction (.aby a) 3 4 true adc s

/-- `0x7D` abx (R245). -/
def execAdcAbx (a : Word) (s : State) : Host.Outcome State Fault Refusal :=
  instruction (.abx a) 3 4 true adc s

/-! ## SBC -/

/-- SBC (R246): `AddWithCarry` of the complement. -/
def sbc : Handler := fun o r s => do
  let (m, s) ← readOperand o r s
  pure (s.addWithCarry (m ^^^ 0xFF))

/-- `0xE1` izx (R246). -/
def execSbcIzx (z : Byte) (s : State) : Host.Outcome State Fault Refusal :=
  instruction (.izx z) 2 6 false sbc s

/-- `0xE5` zp (R246). -/
def execSbcZp (z : Byte) (s : State) : Host.Outcome State Fault Refusal :=
  instruction (.zp z) 2 3 false sbc s

/-- `0xE9` imm (R246). -/
def execSbcImm (v : Byte) (s : State) : Host.Outcome State Fault Refusal :=
  instruction (.imm v) 2 2 false sbc s

/-- `0xED` abs (R246). -/
def execSbcAbs (a : Word) (s : State) : Host.Outcome State Fault Refusal :=
  instruction (.abs a) 3 4 false sbc s

/-- `0xF1` izy (R246). -/
def execSbcIzy (z : Byte) (s : State) : Host.Outcome State Fault Refusal :=
  instruction (.izy z) 2 5 true sbc s

/-- `0xF5` zpx (R246). -/
def execSbcZpx (z : Byte) (s : State) : Host.Outcome State Fault Refusal :=
  instruction (.zpx z) 2 4 false sbc s

/-- `0xF9` aby (R246). -/
def execSbcAby (a : Word) (s : State) : Host.Outcome State Fault Refusal :=
  instruction (.aby a) 3 4 true sbc s

/-- `0xFD` abx (R246). -/
def execSbcAbx (a : Word) (s : State) : Host.Outcome State Fault Refusal :=
  instruction (.abx a) 3 4 true sbc s

/-! ## CMP -/

/-- CMP (R247). -/
def cmp : Handler := fun o r s => do
  let (m, s) ← readOperand o r s
  pure (s.compare s.cpu.a m)

/-- `0xC1` izx (R247). -/
def execCmpIzx (z : Byte) (s : State) : Host.Outcome State Fault Refusal :=
  instruction (.izx z) 2 6 false cmp s

/-- `0xC5` zp (R247). -/
def execCmpZp (z : Byte) (s : State) : Host.Outcome State Fault Refusal :=
  instruction (.zp z) 2 3 false cmp s

/-- `0xC9` imm (R247). -/
def execCmpImm (v : Byte) (s : State) : Host.Outcome State Fault Refusal :=
  instruction (.imm v) 2 2 false cmp s

/-- `0xCD` abs (R247). -/
def execCmpAbs (a : Word) (s : State) : Host.Outcome State Fault Refusal :=
  instruction (.abs a) 3 4 false cmp s

/-- `0xD1` izy (R247). -/
def execCmpIzy (z : Byte) (s : State) : Host.Outcome State Fault Refusal :=
  instruction (.izy z) 2 5 true cmp s

/-- `0xD5` zpx (R247). -/
def execCmpZpx (z : Byte) (s : State) : Host.Outcome State Fault Refusal :=
  instruction (.zpx z) 2 4 false cmp s

/-- `0xD9` aby (R247). -/
def execCmpAby (a : Word) (s : State) : Host.Outcome State Fault Refusal :=
  instruction (.aby a) 3 4 true cmp s

/-- `0xDD` abx (R247). -/
def execCmpAbx (a : Word) (s : State) : Host.Outcome State Fault Refusal :=
  instruction (.abx a) 3 4 true cmp s

/-! ## CPX -/

/-- CPX (R248). -/
def cpx : Handler := fun o r s => do
  let (m, s) ← readOperand o r s
  pure (s.compare s.cpu.x m)

/-- `0xE0` imm (R248). -/
def execCpxImm (v : Byte) (s : State) : Host.Outcome State Fault Refusal :=
  instruction (.imm v) 2 2 false cpx s

/-- `0xE4` zp (R248). -/
def execCpxZp (z : Byte) (s : State) : Host.Outcome State Fault Refusal :=
  instruction (.zp z) 2 3 false cpx s

/-- `0xEC` abs (R248). -/
def execCpxAbs (a : Word) (s : State) : Host.Outcome State Fault Refusal :=
  instruction (.abs a) 3 4 false cpx s

/-! ## CPY -/

/-- CPY (R249). -/
def cpy : Handler := fun o r s => do
  let (m, s) ← readOperand o r s
  pure (s.compare s.cpu.y m)

/-- `0xC0` imm (R249). -/
def execCpyImm (v : Byte) (s : State) : Host.Outcome State Fault Refusal :=
  instruction (.imm v) 2 2 false cpy s

/-- `0xC4` zp (R249). -/
def execCpyZp (z : Byte) (s : State) : Host.Outcome State Fault Refusal :=
  instruction (.zp z) 2 3 false cpy s

/-- `0xCC` abs (R249). -/
def execCpyAbs (a : Word) (s : State) : Host.Outcome State Fault Refusal :=
  instruction (.abs a) 3 4 false cpy s

end Sys2Proof.Machine
end

