-- ==== Sys2Proof/Machine/Control.lean ====
section
/-! DEFINITION. Jumps, subroutines, BRK and branches (spec/44_control_flow.md). -/

namespace Sys2Proof.Machine

open Sys2Proof

/-- The common handler of the conditional branches (R285): a taken branch costs one cycle, and one more when the target's
page is not that of the next instruction, where `PC` already points. -/
def branch (cond : Flags → Bool) : Handler := fun _ r s =>
  if cond s.cpu.p then
    .ok ((s.charge (if hiByte r.ea = hiByte s.cpu.pc then 1 else 2)).setPc r.ea)
  else .ok s

/-! ## JMP -/

/-- JMP (R280). -/
def jmp : Handler := fun _ r s => .ok (s.setPc r.ea)

/-- `0x4C` abs (R280). -/
def execJmpAbs (a : Word) (s : State) : Host.Outcome State Fault Refusal :=
  instruction (.abs a) 3 3 false jmp s

/-- `0x6C` ind (R280). -/
def execJmpInd (a : Word) (s : State) : Host.Outcome State Fault Refusal :=
  instruction (.ind a) 3 5 false jmp s

/-! ## JSR -/

/-- JSR (R281): the pushed value is the address of the instruction's last byte. -/
def jsr : Handler := fun _ r s => do
  let s ← pushWord (s.cpu.pc - 1) s
  pure (s.setPc r.ea)

/-- `0x20` abs (R281). -/
def execJsrAbs (a : Word) (s : State) : Host.Outcome State Fault Refusal :=
  instruction (.abs a) 3 6 false jsr s

/-! ## RTS -/

/-- RTS (R282). -/
def rts : Handler := fun _ _ s => do
  let (w, s) ← pullWord s
  pure (s.setPc (w + 1))

/-- `0x60` imp (R282). -/
def execRts (s : State) : Host.Outcome State Fault Refusal :=
  instruction .imp 1 6 false rts s

/-! ## RTI -/

/-- RTI (R283). -/
def rti : Handler := fun _ _ s => returnFromInterrupt s

/-- `0x40` imp (R283). -/
def execRti (s : State) : Host.Outcome State Fault Refusal :=
  instruction .imp 1 6 false rti s

/-! ## BRK -/

/-- BRK (R284): `PC` is already past the padding byte. -/
def brk : Handler := fun _ _ s => enterInterrupt true irqVector s

/-- `0x00` imp (R284). -/
def execBrk (s : State) : Host.Outcome State Fault Refusal :=
  instruction .imp 2 7 false brk s

/-! ## BCC -/

/-- BCC (R286). -/
def bcc : Handler := branch (fun p => !p.c)

/-- `0x90` rel (R286). -/
def execBcc (d : Byte) (s : State) : Host.Outcome State Fault Refusal :=
  instruction (.rel d) 2 2 false bcc s

/-! ## BCS -/

/-- BCS (R287). -/
def bcs : Handler := branch (fun p => p.c)

/-- `0xB0` rel (R287). -/
def execBcs (d : Byte) (s : State) : Host.Outcome State Fault Refusal :=
  instruction (.rel d) 2 2 false bcs s

/-! ## BEQ -/

/-- BEQ (R288). -/
def beq : Handler := branch (fun p => p.z)

/-- `0xF0` rel (R288). -/
def execBeq (d : Byte) (s : State) : Host.Outcome State Fault Refusal :=
  instruction (.rel d) 2 2 false beq s

/-! ## BNE -/

/-- BNE (R289). -/
def bne : Handler := branch (fun p => !p.z)

/-- `0xD0` rel (R289). -/
def execBne (d : Byte) (s : State) : Host.Outcome State Fault Refusal :=
  instruction (.rel d) 2 2 false bne s

/-! ## BMI -/

/-- BMI (R290). -/
def bmi : Handler := branch (fun p => p.n)

/-- `0x30` rel (R290). -/
def execBmi (d : Byte) (s : State) : Host.Outcome State Fault Refusal :=
  instruction (.rel d) 2 2 false bmi s

/-! ## BPL -/

/-- BPL (R291). -/
def bpl : Handler := branch (fun p => !p.n)

/-- `0x10` rel (R291). -/
def execBpl (d : Byte) (s : State) : Host.Outcome State Fault Refusal :=
  instruction (.rel d) 2 2 false bpl s

/-! ## BVC -/

/-- BVC (R292). -/
def bvc : Handler := branch (fun p => !p.v)

/-- `0x50` rel (R292). -/
def execBvc (d : Byte) (s : State) : Host.Outcome State Fault Refusal :=
  instruction (.rel d) 2 2 false bvc s

/-! ## BVS -/

/-- BVS (R293). -/
def bvs : Handler := branch (fun p => p.v)

/-- `0x70` rel (R293). -/
def execBvs (d : Byte) (s : State) : Host.Outcome State Fault Refusal :=
  instruction (.rel d) 2 2 false bvs s

end Sys2Proof.Machine
end

