-- ==== Sys2Proof/Machine/FlagOps.lean ====
section
/-! DEFINITION. Flag instructions and NOP (spec/45_flags_nop.md). -/

namespace Sys2Proof.Machine

open Sys2Proof

/-! ## CLC -/

/-- CLC (R310). -/
def clc : Handler := fun _ _ s => .ok (s.setP { s.cpu.p with c := false })

/-- `0x18` imp (R310). -/
def execClc (s : State) : Host.Outcome State Fault Refusal :=
  instruction .imp 1 2 false clc s

/-! ## SEC -/

/-- SEC (R311). -/
def sec : Handler := fun _ _ s => .ok (s.setP { s.cpu.p with c := true })

/-- `0x38` imp (R311). -/
def execSec (s : State) : Host.Outcome State Fault Refusal :=
  instruction .imp 1 2 false sec s

/-! ## CLI -/

/-- CLI (R312). -/
def cli : Handler := fun _ _ s => .ok (s.setP { s.cpu.p with i := false })

/-- `0x58` imp (R312). -/
def execCli (s : State) : Host.Outcome State Fault Refusal :=
  instruction .imp 1 2 false cli s

/-! ## SEI -/

/-- SEI (R313). -/
def sei : Handler := fun _ _ s => .ok (s.setP { s.cpu.p with i := true })

/-- `0x78` imp (R313). -/
def execSei (s : State) : Host.Outcome State Fault Refusal :=
  instruction .imp 1 2 false sei s

/-! ## CLV -/

/-- CLV (R314). -/
def clv : Handler := fun _ _ s => .ok (s.setP { s.cpu.p with v := false })

/-- `0xB8` imp (R314). -/
def execClv (s : State) : Host.Outcome State Fault Refusal :=
  instruction .imp 1 2 false clv s

/-! ## CLD -/

/-- CLD (R315). -/
def cld : Handler := fun _ _ s => .ok (s.setP { s.cpu.p with d := false })

/-- `0xD8` imp (R315). -/
def execCld (s : State) : Host.Outcome State Fault Refusal :=
  instruction .imp 1 2 false cld s

/-! ## SED -/

/-- SED (R316). -/
def sed : Handler := fun _ _ s => .ok (s.setP { s.cpu.p with d := true })

/-- `0xF8` imp (R316). -/
def execSed (s : State) : Host.Outcome State Fault Refusal :=
  instruction .imp 1 2 false sed s

/-! ## NOP -/

/-- NOP (R317). -/
def nop : Handler := fun _ _ s => .ok s

/-- `0xEA` imp (R317). -/
def execNop (s : State) : Host.Outcome State Fault Refusal :=
  instruction .imp 1 2 false nop s

end Sys2Proof.Machine
end

