-- ==== Sys2Proof/Machine/LoadStore.lean ====
section
/-! DEFINITION. Load and store instructions (spec/40_load_store.md). -/

namespace Sys2Proof.Machine

open Sys2Proof

/-! ## LDA -/

/-- LDA (R201). -/
def lda : Handler := fun o r s => do
  let (m, s) ← readOperand o r s
  pure ((s.setA m).setZN m)

/-- `0xA1` izx (R201). -/
def execLdaIzx (z : Byte) (s : State) : Host.Outcome State Fault Refusal :=
  instruction (.izx z) 2 6 false lda s

/-- `0xA5` zp (R201). -/
def execLdaZp (z : Byte) (s : State) : Host.Outcome State Fault Refusal :=
  instruction (.zp z) 2 3 false lda s

/-- `0xA9` imm (R201). -/
def execLdaImm (v : Byte) (s : State) : Host.Outcome State Fault Refusal :=
  instruction (.imm v) 2 2 false lda s

/-- `0xAD` abs (R201). -/
def execLdaAbs (a : Word) (s : State) : Host.Outcome State Fault Refusal :=
  instruction (.abs a) 3 4 false lda s

/-- `0xB1` izy (R201). -/
def execLdaIzy (z : Byte) (s : State) : Host.Outcome State Fault Refusal :=
  instruction (.izy z) 2 5 true lda s

/-- `0xB5` zpx (R201). -/
def execLdaZpx (z : Byte) (s : State) : Host.Outcome State Fault Refusal :=
  instruction (.zpx z) 2 4 false lda s

/-- `0xB9` aby (R201). -/
def execLdaAby (a : Word) (s : State) : Host.Outcome State Fault Refusal :=
  instruction (.aby a) 3 4 true lda s

/-- `0xBD` abx (R201). -/
def execLdaAbx (a : Word) (s : State) : Host.Outcome State Fault Refusal :=
  instruction (.abx a) 3 4 true lda s

/-! ## LDX -/

/-- LDX (R202). -/
def ldx : Handler := fun o r s => do
  let (m, s) ← readOperand o r s
  pure ((s.setX m).setZN m)

/-- `0xA2` imm (R202). -/
def execLdxImm (v : Byte) (s : State) : Host.Outcome State Fault Refusal :=
  instruction (.imm v) 2 2 false ldx s

/-- `0xA6` zp (R202). -/
def execLdxZp (z : Byte) (s : State) : Host.Outcome State Fault Refusal :=
  instruction (.zp z) 2 3 false ldx s

/-- `0xAE` abs (R202). -/
def execLdxAbs (a : Word) (s : State) : Host.Outcome State Fault Refusal :=
  instruction (.abs a) 3 4 false ldx s

/-- `0xB6` zpy (R202). -/
def execLdxZpy (z : Byte) (s : State) : Host.Outcome State Fault Refusal :=
  instruction (.zpy z) 2 4 false ldx s

/-- `0xBE` aby (R202). -/
def execLdxAby (a : Word) (s : State) : Host.Outcome State Fault Refusal :=
  instruction (.aby a) 3 4 true ldx s

/-! ## LDY -/

/-- LDY (R203). -/
def ldy : Handler := fun o r s => do
  let (m, s) ← readOperand o r s
  pure ((s.setY m).setZN m)

/-- `0xA0` imm (R203). -/
def execLdyImm (v : Byte) (s : State) : Host.Outcome State Fault Refusal :=
  instruction (.imm v) 2 2 false ldy s

/-- `0xA4` zp (R203). -/
def execLdyZp (z : Byte) (s : State) : Host.Outcome State Fault Refusal :=
  instruction (.zp z) 2 3 false ldy s

/-- `0xAC` abs (R203). -/
def execLdyAbs (a : Word) (s : State) : Host.Outcome State Fault Refusal :=
  instruction (.abs a) 3 4 false ldy s

/-- `0xB4` zpx (R203). -/
def execLdyZpx (z : Byte) (s : State) : Host.Outcome State Fault Refusal :=
  instruction (.zpx z) 2 4 false ldy s

/-- `0xBC` abx (R203). -/
def execLdyAbx (a : Word) (s : State) : Host.Outcome State Fault Refusal :=
  instruction (.abx a) 3 4 true ldy s

/-! ## STA -/

/-- STA (R204). -/
def sta : Handler := fun o r s => writeOperand o r s.cpu.a s

/-- `0x81` izx (R204). -/
def execStaIzx (z : Byte) (s : State) : Host.Outcome State Fault Refusal :=
  instruction (.izx z) 2 6 false sta s

/-- `0x85` zp (R204). -/
def execStaZp (z : Byte) (s : State) : Host.Outcome State Fault Refusal :=
  instruction (.zp z) 2 3 false sta s

/-- `0x8D` abs (R204). -/
def execStaAbs (a : Word) (s : State) : Host.Outcome State Fault Refusal :=
  instruction (.abs a) 3 4 false sta s

/-- `0x91` izy (R204). -/
def execStaIzy (z : Byte) (s : State) : Host.Outcome State Fault Refusal :=
  instruction (.izy z) 2 6 false sta s

/-- `0x95` zpx (R204). -/
def execStaZpx (z : Byte) (s : State) : Host.Outcome State Fault Refusal :=
  instruction (.zpx z) 2 4 false sta s

/-- `0x99` aby (R204). -/
def execStaAby (a : Word) (s : State) : Host.Outcome State Fault Refusal :=
  instruction (.aby a) 3 5 false sta s

/-- `0x9D` abx (R204). -/
def execStaAbx (a : Word) (s : State) : Host.Outcome State Fault Refusal :=
  instruction (.abx a) 3 5 false sta s

/-! ## STX -/

/-- STX (R205). -/
def stx : Handler := fun o r s => writeOperand o r s.cpu.x s

/-- `0x86` zp (R205). -/
def execStxZp (z : Byte) (s : State) : Host.Outcome State Fault Refusal :=
  instruction (.zp z) 2 3 false stx s

/-- `0x8E` abs (R205). -/
def execStxAbs (a : Word) (s : State) : Host.Outcome State Fault Refusal :=
  instruction (.abs a) 3 4 false stx s

/-- `0x96` zpy (R205). -/
def execStxZpy (z : Byte) (s : State) : Host.Outcome State Fault Refusal :=
  instruction (.zpy z) 2 4 false stx s

/-! ## STY -/

/-- STY (R206). -/
def sty : Handler := fun o r s => writeOperand o r s.cpu.y s

/-- `0x84` zp (R206). -/
def execStyZp (z : Byte) (s : State) : Host.Outcome State Fault Refusal :=
  instruction (.zp z) 2 3 false sty s

/-- `0x8C` abs (R206). -/
def execStyAbs (a : Word) (s : State) : Host.Outcome State Fault Refusal :=
  instruction (.abs a) 3 4 false sty s

/-- `0x94` zpx (R206). -/
def execStyZpx (z : Byte) (s : State) : Host.Outcome State Fault Refusal :=
  instruction (.zpx z) 2 4 false sty s

end Sys2Proof.Machine
end

