-- ==== Sys2Proof/Machine/Rmw.lean ====
section
/-! DEFINITION. Increment, decrement, shift and rotate instructions (spec/43_rmw.md). -/

namespace Sys2Proof.Machine

open Sys2Proof

/-- A shift or rotate (R267 to R270): `f` takes the old carry and the operand to the result and the carry out; the result is
stored to A or to memory. -/
def shift (f : Bool → Byte → Byte × Bool) : Handler := fun o r s => do
  let (m, s) ← readOperand o r s
  let v := f s.cpu.p.c m
  let s ← writeOperand o r v.1 (s.setC v.2)
  pure (s.setZN v.1)

/-! ## INC -/

/-- INC (R261). -/
def inc : Handler := fun o r s => do
  let (m, s) ← readOperand o r s
  let s ← writeOperand o r (m + 1) s
  pure (s.setZN (m + 1))

/-- `0xE6` zp (R261). -/
def execIncZp (z : Byte) (s : State) : Host.Outcome State Fault Refusal :=
  instruction (.zp z) 2 5 false inc s

/-- `0xEE` abs (R261). -/
def execIncAbs (a : Word) (s : State) : Host.Outcome State Fault Refusal :=
  instruction (.abs a) 3 6 false inc s

/-- `0xF6` zpx (R261). -/
def execIncZpx (z : Byte) (s : State) : Host.Outcome State Fault Refusal :=
  instruction (.zpx z) 2 6 false inc s

/-- `0xFE` abx (R261). -/
def execIncAbx (a : Word) (s : State) : Host.Outcome State Fault Refusal :=
  instruction (.abx a) 3 7 false inc s

/-! ## DEC -/

/-- DEC (R262). -/
def dec : Handler := fun o r s => do
  let (m, s) ← readOperand o r s
  let s ← writeOperand o r (m - 1) s
  pure (s.setZN (m - 1))

/-- `0xC6` zp (R262). -/
def execDecZp (z : Byte) (s : State) : Host.Outcome State Fault Refusal :=
  instruction (.zp z) 2 5 false dec s

/-- `0xCE` abs (R262). -/
def execDecAbs (a : Word) (s : State) : Host.Outcome State Fault Refusal :=
  instruction (.abs a) 3 6 false dec s

/-- `0xD6` zpx (R262). -/
def execDecZpx (z : Byte) (s : State) : Host.Outcome State Fault Refusal :=
  instruction (.zpx z) 2 6 false dec s

/-- `0xDE` abx (R262). -/
def execDecAbx (a : Word) (s : State) : Host.Outcome State Fault Refusal :=
  instruction (.abx a) 3 7 false dec s

/-! ## INX -/

/-- INX (R263). -/
def inx : Handler := fun _ _ s => .ok ((s.setX (s.cpu.x + 1)).setZN (s.cpu.x + 1))

/-- `0xE8` imp (R263). -/
def execInx (s : State) : Host.Outcome State Fault Refusal :=
  instruction .imp 1 2 false inx s

/-! ## INY -/

/-- INY (R264). -/
def iny : Handler := fun _ _ s => .ok ((s.setY (s.cpu.y + 1)).setZN (s.cpu.y + 1))

/-- `0xC8` imp (R264). -/
def execIny (s : State) : Host.Outcome State Fault Refusal :=
  instruction .imp 1 2 false iny s

/-! ## DEX -/

/-- DEX (R265). -/
def dex : Handler := fun _ _ s => .ok ((s.setX (s.cpu.x - 1)).setZN (s.cpu.x - 1))

/-- `0xCA` imp (R265). -/
def execDex (s : State) : Host.Outcome State Fault Refusal :=
  instruction .imp 1 2 false dex s

/-! ## DEY -/

/-- DEY (R266). -/
def dey : Handler := fun _ _ s => .ok ((s.setY (s.cpu.y - 1)).setZN (s.cpu.y - 1))

/-- `0x88` imp (R266). -/
def execDey (s : State) : Host.Outcome State Fault Refusal :=
  instruction .imp 1 2 false dey s

/-! ## ASL -/

/-- ASL (R267). -/
def asl : Handler := shift (fun _ => shiftLeft)

/-- `0x06` zp (R267). -/
def execAslZp (z : Byte) (s : State) : Host.Outcome State Fault Refusal :=
  instruction (.zp z) 2 5 false asl s

/-- `0x0A` acc (R267). -/
def execAslAcc (s : State) : Host.Outcome State Fault Refusal :=
  instruction .acc 1 2 false asl s

/-- `0x0E` abs (R267). -/
def execAslAbs (a : Word) (s : State) : Host.Outcome State Fault Refusal :=
  instruction (.abs a) 3 6 false asl s

/-- `0x16` zpx (R267). -/
def execAslZpx (z : Byte) (s : State) : Host.Outcome State Fault Refusal :=
  instruction (.zpx z) 2 6 false asl s

/-- `0x1E` abx (R267). -/
def execAslAbx (a : Word) (s : State) : Host.Outcome State Fault Refusal :=
  instruction (.abx a) 3 7 false asl s

/-! ## LSR -/

/-- LSR (R268). -/
def lsr : Handler := shift (fun _ => shiftRight)

/-- `0x46` zp (R268). -/
def execLsrZp (z : Byte) (s : State) : Host.Outcome State Fault Refusal :=
  instruction (.zp z) 2 5 false lsr s

/-- `0x4A` acc (R268). -/
def execLsrAcc (s : State) : Host.Outcome State Fault Refusal :=
  instruction .acc 1 2 false lsr s

/-- `0x4E` abs (R268). -/
def execLsrAbs (a : Word) (s : State) : Host.Outcome State Fault Refusal :=
  instruction (.abs a) 3 6 false lsr s

/-- `0x56` zpx (R268). -/
def execLsrZpx (z : Byte) (s : State) : Host.Outcome State Fault Refusal :=
  instruction (.zpx z) 2 6 false lsr s

/-- `0x5E` abx (R268). -/
def execLsrAbx (a : Word) (s : State) : Host.Outcome State Fault Refusal :=
  instruction (.abx a) 3 7 false lsr s

/-! ## ROL -/

/-- ROL (R269). -/
def rol : Handler := shift rotateLeft

/-- `0x26` zp (R269). -/
def execRolZp (z : Byte) (s : State) : Host.Outcome State Fault Refusal :=
  instruction (.zp z) 2 5 false rol s

/-- `0x2A` acc (R269). -/
def execRolAcc (s : State) : Host.Outcome State Fault Refusal :=
  instruction .acc 1 2 false rol s

/-- `0x2E` abs (R269). -/
def execRolAbs (a : Word) (s : State) : Host.Outcome State Fault Refusal :=
  instruction (.abs a) 3 6 false rol s

/-- `0x36` zpx (R269). -/
def execRolZpx (z : Byte) (s : State) : Host.Outcome State Fault Refusal :=
  instruction (.zpx z) 2 6 false rol s

/-- `0x3E` abx (R269). -/
def execRolAbx (a : Word) (s : State) : Host.Outcome State Fault Refusal :=
  instruction (.abx a) 3 7 false rol s

/-! ## ROR -/

/-- ROR (R270). -/
def ror : Handler := shift rotateRight

/-- `0x66` zp (R270). -/
def execRorZp (z : Byte) (s : State) : Host.Outcome State Fault Refusal :=
  instruction (.zp z) 2 5 false ror s

/-- `0x6A` acc (R270). -/
def execRorAcc (s : State) : Host.Outcome State Fault Refusal :=
  instruction .acc 1 2 false ror s

/-- `0x6E` abs (R270). -/
def execRorAbs (a : Word) (s : State) : Host.Outcome State Fault Refusal :=
  instruction (.abs a) 3 6 false ror s

/-- `0x76` zpx (R270). -/
def execRorZpx (z : Byte) (s : State) : Host.Outcome State Fault Refusal :=
  instruction (.zpx z) 2 6 false ror s

/-- `0x7E` abx (R270). -/
def execRorAbx (a : Word) (s : State) : Host.Outcome State Fault Refusal :=
  instruction (.abx a) 3 7 false ror s

end Sys2Proof.Machine
end

