-- ==== Sys2Proof/Machine/Transfer.lean ====
section
/-! DEFINITION. Register transfer and stack instructions (spec/41_transfer_stack.md). -/

namespace Sys2Proof.Machine

open Sys2Proof

/-! ## TAX -/

/-- TAX (R221). -/
def tax : Handler := fun _ _ s => .ok ((s.setX s.cpu.a).setZN s.cpu.a)

/-- `0xAA` imp (R221). -/
def execTax (s : State) : Host.Outcome State Fault Refusal :=
  instruction .imp 1 2 false tax s

/-! ## TAY -/

/-- TAY (R222). -/
def tay : Handler := fun _ _ s => .ok ((s.setY s.cpu.a).setZN s.cpu.a)

/-- `0xA8` imp (R222). -/
def execTay (s : State) : Host.Outcome State Fault Refusal :=
  instruction .imp 1 2 false tay s

/-! ## TXA -/

/-- TXA (R223). -/
def txa : Handler := fun _ _ s => .ok ((s.setA s.cpu.x).setZN s.cpu.x)

/-- `0x8A` imp (R223). -/
def execTxa (s : State) : Host.Outcome State Fault Refusal :=
  instruction .imp 1 2 false txa s

/-! ## TYA -/

/-- TYA (R224). -/
def tya : Handler := fun _ _ s => .ok ((s.setA s.cpu.y).setZN s.cpu.y)

/-- `0x98` imp (R224). -/
def execTya (s : State) : Host.Outcome State Fault Refusal :=
  instruction .imp 1 2 false tya s

/-! ## TSX -/

/-- TSX (R225). -/
def tsx : Handler := fun _ _ s => .ok ((s.setX s.cpu.s).setZN s.cpu.s)

/-- `0xBA` imp (R225). -/
def execTsx (s : State) : Host.Outcome State Fault Refusal :=
  instruction .imp 1 2 false tsx s

/-! ## TXS -/

/-- TXS (R226): no flag is written. -/
def txs : Handler := fun _ _ s => .ok (s.setS s.cpu.x)

/-- `0x9A` imp (R226). -/
def execTxs (s : State) : Host.Outcome State Fault Refusal :=
  instruction .imp 1 2 false txs s

/-! ## PHA -/

/-- PHA (R227). -/
def pha : Handler := fun _ _ s => push s.cpu.a s

/-- `0x48` imp (R227). -/
def execPha (s : State) : Host.Outcome State Fault Refusal :=
  instruction .imp 1 3 false pha s

/-! ## PHP -/

/-- PHP (R228): the pushed copy has bit 4 set, `P.B` is not changed. -/
def php : Handler := fun _ _ s => push (s.cpu.p.statusByte true) s

/-- `0x08` imp (R228). -/
def execPhp (s : State) : Host.Outcome State Fault Refusal :=
  instruction .imp 1 3 false php s

/-! ## PLA -/

/-- PLA (R229). -/
def pla : Handler := fun _ _ s => do
  let (m, s) ← pull s
  pure ((s.setA m).setZN m)

/-- `0x68` imp (R229). -/
def execPla (s : State) : Host.Outcome State Fault Refusal :=
  instruction .imp 1 4 false pla s

/-! ## PLP -/

/-- PLP (R230). -/
def plp : Handler := fun _ _ s => do
  let (m, s) ← pull s
  pure (s.setP (s.cpu.p.setStatus m))

/-- `0x28` imp (R230). -/
def execPlp (s : State) : Host.Outcome State Fault Refusal :=
  instruction .imp 1 4 false plp s

end Sys2Proof.Machine
end

