-- ==== Sys2Proof/Machine/Unofficial.lean ====
section
/-! DEFINITION. Unofficial opcodes, the opcodes of class extra, and the illegal ones (spec/46_unofficial.md, spec/30_encoding.md R159, R160). -/

namespace Sys2Proof.Machine

open Sys2Proof

/-- A combined read-modify-write (R324 to R327): shift memory by `f`, which takes the old carry, then do `g` with the result. -/
def shiftThen (f : Bool → Byte → Byte × Bool) (g : Byte → State → State) : Handler := fun o r s => do
  let (m, s) ← readOperand o r s
  let v := f s.cpu.p.c m
  let s ← writeOperand o r v.1 (s.setC v.2)
  pure (g v.1 s)

/-- The common store of SHA, SHX, SHY and TAS (R341): `R & (hi(base) + 1)`, which also replaces the high byte of the address
when a page is crossed. -/
def storeHigh (r : Resolved) (reg : Byte) (s : State) : Run State :=
  let v := reg &&& (hiByte r.base + 1)
  memWrite (if r.crossed then wordOf v (loByte r.ea) else r.ea) v s

/-! ## LAX -/

/-- LAX (R320). -/
def lax : Handler := fun o r s => do
  let (m, s) ← readOperand o r s
  pure (((s.setA m).setX m).setZN m)

/-- `0xA3` izx (R320). -/
def execLaxIzx (z : Byte) (s : State) : Host.Outcome State Fault Refusal :=
  instruction (.izx z) 2 6 false lax s

/-- `0xA7` zp (R320). -/
def execLaxZp (z : Byte) (s : State) : Host.Outcome State Fault Refusal :=
  instruction (.zp z) 2 3 false lax s

/-- `0xAF` abs (R320). -/
def execLaxAbs (a : Word) (s : State) : Host.Outcome State Fault Refusal :=
  instruction (.abs a) 3 4 false lax s

/-- `0xB3` izy (R320). -/
def execLaxIzy (z : Byte) (s : State) : Host.Outcome State Fault Refusal :=
  instruction (.izy z) 2 5 true lax s

/-- `0xB7` zpy (R320). -/
def execLaxZpy (z : Byte) (s : State) : Host.Outcome State Fault Refusal :=
  instruction (.zpy z) 2 4 false lax s

/-- `0xBF` aby (R320). -/
def execLaxAby (a : Word) (s : State) : Host.Outcome State Fault Refusal :=
  instruction (.aby a) 3 4 true lax s

/-! ## SAX -/

/-- SAX (R321). -/
def sax : Handler := fun o r s => writeOperand o r (s.cpu.a &&& s.cpu.x) s

/-- `0x83` izx (R321). -/
def execSaxIzx (z : Byte) (s : State) : Host.Outcome State Fault Refusal :=
  instruction (.izx z) 2 6 false sax s

/-- `0x87` zp (R321). -/
def execSaxZp (z : Byte) (s : State) : Host.Outcome State Fault Refusal :=
  instruction (.zp z) 2 3 false sax s

/-- `0x8F` abs (R321). -/
def execSaxAbs (a : Word) (s : State) : Host.Outcome State Fault Refusal :=
  instruction (.abs a) 3 4 false sax s

/-- `0x97` zpy (R321). -/
def execSaxZpy (z : Byte) (s : State) : Host.Outcome State Fault Refusal :=
  instruction (.zpy z) 2 4 false sax s

/-! ## DCP -/

/-- DCP (R322): decrement memory, then compare with A. -/
def dcp : Handler := fun o r s => do
  let (m, s) ← readOperand o r s
  let s ← writeOperand o r (m - 1) s
  pure (s.compare s.cpu.a (m - 1))

/-- `0xC3` izx (R322). -/
def execDcpIzx (z : Byte) (s : State) : Host.Outcome State Fault Refusal :=
  instruction (.izx z) 2 8 false dcp s

/-- `0xC7` zp (R322). -/
def execDcpZp (z : Byte) (s : State) : Host.Outcome State Fault Refusal :=
  instruction (.zp z) 2 5 false dcp s

/-- `0xCF` abs (R322). -/
def execDcpAbs (a : Word) (s : State) : Host.Outcome State Fault Refusal :=
  instruction (.abs a) 3 6 false dcp s

/-- `0xD3` izy (R322). -/
def execDcpIzy (z : Byte) (s : State) : Host.Outcome State Fault Refusal :=
  instruction (.izy z) 2 8 false dcp s

/-- `0xD7` zpx (R322). -/
def execDcpZpx (z : Byte) (s : State) : Host.Outcome State Fault Refusal :=
  instruction (.zpx z) 2 6 false dcp s

/-- `0xDB` aby (R322). -/
def execDcpAby (a : Word) (s : State) : Host.Outcome State Fault Refusal :=
  instruction (.aby a) 3 7 false dcp s

/-- `0xDF` abx (R322). -/
def execDcpAbx (a : Word) (s : State) : Host.Outcome State Fault Refusal :=
  instruction (.abx a) 3 7 false dcp s

/-! ## ISC -/

/-- ISC (R323): increment memory, then subtract from A. -/
def isc : Handler := fun o r s => do
  let (m, s) ← readOperand o r s
  let s ← writeOperand o r (m + 1) s
  pure (s.addWithCarry ((m + 1) ^^^ 0xFF))

/-- `0xE3` izx (R323). -/
def execIscIzx (z : Byte) (s : State) : Host.Outcome State Fault Refusal :=
  instruction (.izx z) 2 8 false isc s

/-- `0xE7` zp (R323). -/
def execIscZp (z : Byte) (s : State) : Host.Outcome State Fault Refusal :=
  instruction (.zp z) 2 5 false isc s

/-- `0xEF` abs (R323). -/
def execIscAbs (a : Word) (s : State) : Host.Outcome State Fault Refusal :=
  instruction (.abs a) 3 6 false isc s

/-- `0xF3` izy (R323). -/
def execIscIzy (z : Byte) (s : State) : Host.Outcome State Fault Refusal :=
  instruction (.izy z) 2 8 false isc s

/-- `0xF7` zpx (R323). -/
def execIscZpx (z : Byte) (s : State) : Host.Outcome State Fault Refusal :=
  instruction (.zpx z) 2 6 false isc s

/-- `0xFB` aby (R323). -/
def execIscAby (a : Word) (s : State) : Host.Outcome State Fault Refusal :=
  instruction (.aby a) 3 7 false isc s

/-- `0xFF` abx (R323). -/
def execIscAbx (a : Word) (s : State) : Host.Outcome State Fault Refusal :=
  instruction (.abx a) 3 7 false isc s

/-! ## SLO -/

/-- SLO (R324): shift memory left, then OR into A. -/
def slo : Handler := shiftThen (fun _ => shiftLeft) (fun v s => s.logic (s.cpu.a ||| v))

/-- `0x03` izx (R324). -/
def execSloIzx (z : Byte) (s : State) : Host.Outcome State Fault Refusal :=
  instruction (.izx z) 2 8 false slo s

/-- `0x07` zp (R324). -/
def execSloZp (z : Byte) (s : State) : Host.Outcome State Fault Refusal :=
  instruction (.zp z) 2 5 false slo s

/-- `0x0F` abs (R324). -/
def execSloAbs (a : Word) (s : State) : Host.Outcome State Fault Refusal :=
  instruction (.abs a) 3 6 false slo s

/-- `0x13` izy (R324). -/
def execSloIzy (z : Byte) (s : State) : Host.Outcome State Fault Refusal :=
  instruction (.izy z) 2 8 false slo s

/-- `0x17` zpx (R324). -/
def execSloZpx (z : Byte) (s : State) : Host.Outcome State Fault Refusal :=
  instruction (.zpx z) 2 6 false slo s

/-- `0x1B` aby (R324). -/
def execSloAby (a : Word) (s : State) : Host.Outcome State Fault Refusal :=
  instruction (.aby a) 3 7 false slo s

/-- `0x1F` abx (R324). -/
def execSloAbx (a : Word) (s : State) : Host.Outcome State Fault Refusal :=
  instruction (.abx a) 3 7 false slo s

/-! ## RLA -/

/-- RLA (R325): rotate memory left, then AND into A. -/
def rla : Handler := shiftThen rotateLeft (fun v s => s.logic (s.cpu.a &&& v))

/-- `0x23` izx (R325). -/
def execRlaIzx (z : Byte) (s : State) : Host.Outcome State Fault Refusal :=
  instruction (.izx z) 2 8 false rla s

/-- `0x27` zp (R325). -/
def execRlaZp (z : Byte) (s : State) : Host.Outcome State Fault Refusal :=
  instruction (.zp z) 2 5 false rla s

/-- `0x2F` abs (R325). -/
def execRlaAbs (a : Word) (s : State) : Host.Outcome State Fault Refusal :=
  instruction (.abs a) 3 6 false rla s

/-- `0x33` izy (R325). -/
def execRlaIzy (z : Byte) (s : State) : Host.Outcome State Fault Refusal :=
  instruction (.izy z) 2 8 false rla s

/-- `0x37` zpx (R325). -/
def execRlaZpx (z : Byte) (s : State) : Host.Outcome State Fault Refusal :=
  instruction (.zpx z) 2 6 false rla s

/-- `0x3B` aby (R325). -/
def execRlaAby (a : Word) (s : State) : Host.Outcome State Fault Refusal :=
  instruction (.aby a) 3 7 false rla s

/-- `0x3F` abx (R325). -/
def execRlaAbx (a : Word) (s : State) : Host.Outcome State Fault Refusal :=
  instruction (.abx a) 3 7 false rla s

/-! ## SRE -/

/-- SRE (R326): shift memory right, then EOR into A. -/
def sre : Handler := shiftThen (fun _ => shiftRight) (fun v s => s.logic (s.cpu.a ^^^ v))

/-- `0x43` izx (R326). -/
def execSreIzx (z : Byte) (s : State) : Host.Outcome State Fault Refusal :=
  instruction (.izx z) 2 8 false sre s

/-- `0x47` zp (R326). -/
def execSreZp (z : Byte) (s : State) : Host.Outcome State Fault Refusal :=
  instruction (.zp z) 2 5 false sre s

/-- `0x4F` abs (R326). -/
def execSreAbs (a : Word) (s : State) : Host.Outcome State Fault Refusal :=
  instruction (.abs a) 3 6 false sre s

/-- `0x53` izy (R326). -/
def execSreIzy (z : Byte) (s : State) : Host.Outcome State Fault Refusal :=
  instruction (.izy z) 2 8 false sre s

/-- `0x57` zpx (R326). -/
def execSreZpx (z : Byte) (s : State) : Host.Outcome State Fault Refusal :=
  instruction (.zpx z) 2 6 false sre s

/-- `0x5B` aby (R326). -/
def execSreAby (a : Word) (s : State) : Host.Outcome State Fault Refusal :=
  instruction (.aby a) 3 7 false sre s

/-- `0x5F` abx (R326). -/
def execSreAbx (a : Word) (s : State) : Host.Outcome State Fault Refusal :=
  instruction (.abx a) 3 7 false sre s

/-! ## RRA -/

/-- RRA (R327): rotate memory right, then add to A with the carry shifted out. -/
def rra : Handler := shiftThen rotateRight (fun v s => s.addWithCarry v)

/-- `0x63` izx (R327). -/
def execRraIzx (z : Byte) (s : State) : Host.Outcome State Fault Refusal :=
  instruction (.izx z) 2 8 false rra s

/-- `0x67` zp (R327). -/
def execRraZp (z : Byte) (s : State) : Host.Outcome State Fault Refusal :=
  instruction (.zp z) 2 5 false rra s

/-- `0x6F` abs (R327). -/
def execRraAbs (a : Word) (s : State) : Host.Outcome State Fault Refusal :=
  instruction (.abs a) 3 6 false rra s

/-- `0x73` izy (R327). -/
def execRraIzy (z : Byte) (s : State) : Host.Outcome State Fault Refusal :=
  instruction (.izy z) 2 8 false rra s

/-- `0x77` zpx (R327). -/
def execRraZpx (z : Byte) (s : State) : Host.Outcome State Fault Refusal :=
  instruction (.zpx z) 2 6 false rra s

/-- `0x7B` aby (R327). -/
def execRraAby (a : Word) (s : State) : Host.Outcome State Fault Refusal :=
  instruction (.aby a) 3 7 false rra s

/-- `0x7F` abx (R327). -/
def execRraAbx (a : Word) (s : State) : Host.Outcome State Fault Refusal :=
  instruction (.abx a) 3 7 false rra s

/-! ## ANC -/

/-- ANC (R328): AND, then C is a copy of N. -/
def anc : Handler := fun o r s => do
  let (m, s) ← readOperand o r s
  let v := s.cpu.a &&& m
  pure ((s.logic v).setC (v.getLsbD 7))

/-- `0x0B` imm (R328). -/
def execAncImm0B (v : Byte) (s : State) : Host.Outcome State Fault Refusal :=
  instruction (.imm v) 2 2 false anc s

/-- `0x2B` imm (R328). -/
def execAncImm2B (v : Byte) (s : State) : Host.Outcome State Fault Refusal :=
  instruction (.imm v) 2 2 false anc s

/-! ## ALR -/

/-- ALR (R329): AND, then shift A right. -/
def alr : Handler := fun o r s => do
  let (m, s) ← readOperand o r s
  let t := s.cpu.a &&& m
  pure ((s.setC (t.getLsbD 0)).logic (t >>> 1))

/-- `0x4B` imm (R329). -/
def execAlrImm (v : Byte) (s : State) : Host.Outcome State Fault Refusal :=
  instruction (.imm v) 2 2 false alr s

/-! ## ARR -/

/-- ARR (R330): AND, then rotate A right; C is bit 6 of the result, V is bit 6 xor bit 5. -/
def arr : Handler := fun o r s => do
  let (m, s) ← readOperand o r s
  let v := (rotateRight s.cpu.p.c (s.cpu.a &&& m)).1
  let s := s.logic v
  pure (s.setP { s.cpu.p with c := v.getLsbD 6, v := v.getLsbD 6 ^^ v.getLsbD 5 })

/-- `0x6B` imm (R330). -/
def execArrImm (v : Byte) (s : State) : Host.Outcome State Fault Refusal :=
  instruction (.imm v) 2 2 false arr s

/-! ## SBX -/

/-- SBX (R331): X gets (A AND X) minus the operand; C as in a comparison. -/
def sbx : Handler := fun o r s => do
  let (m, s) ← readOperand o r s
  let t := s.cpu.a &&& s.cpu.x
  pure (((s.setC (decide (t.toNat ≥ m.toNat))).setX (t - m)).setZN (t - m))

/-- `0xCB` imm (R331). -/
def execSbxImm (v : Byte) (s : State) : Host.Outcome State Fault Refusal :=
  instruction (.imm v) 2 2 false sbx s

/-! ## ANE -/

/-- ANE (R337), with the free constant `ANE_MAGIC` (log 4). -/
def ane : Handler := fun o r s => do
  let (m, s) ← readOperand o r s
  pure (s.logic ((s.cpu.a ||| Config.aneMagic) &&& s.cpu.x &&& m))

/-- `0x8B` imm (R337). -/
def execAneImm (v : Byte) (s : State) : Host.Outcome State Fault Refusal :=
  instruction (.imm v) 2 2 false ane s

/-! ## LAS -/

/-- LAS (R332): memory AND S into A, X and S. -/
def las : Handler := fun o r s => do
  let (m, s) ← readOperand o r s
  let v := m &&& s.cpu.s
  pure ((((s.setA v).setX v).setS v).setZN v)

/-- `0xBB` aby (R332). -/
def execLasAby (a : Word) (s : State) : Host.Outcome State Fault Refusal :=
  instruction (.aby a) 3 4 true las s

/-! ## SHA -/

/-- SHA (R333). -/
def sha : Handler := fun _ r s => storeHigh r (s.cpu.a &&& s.cpu.x) s

/-- `0x93` izy (R333). -/
def execShaIzy (z : Byte) (s : State) : Host.Outcome State Fault Refusal :=
  instruction (.izy z) 2 6 false sha s

/-- `0x9F` aby (R333). -/
def execShaAby (a : Word) (s : State) : Host.Outcome State Fault Refusal :=
  instruction (.aby a) 3 5 false sha s

/-! ## SHX -/

/-- SHX (R334). -/
def shx : Handler := fun _ r s => storeHigh r s.cpu.x s

/-- `0x9E` aby (R334). -/
def execShxAby (a : Word) (s : State) : Host.Outcome State Fault Refusal :=
  instruction (.aby a) 3 5 false shx s

/-! ## SHY -/

/-- SHY (R335). -/
def shy : Handler := fun _ r s => storeHigh r s.cpu.y s

/-- `0x9C` abx (R335). -/
def execShyAbx (a : Word) (s : State) : Host.Outcome State Fault Refusal :=
  instruction (.abx a) 3 5 false shy s

/-! ## TAS -/

/-- TAS (R336): S gets A AND X, then the store with the new S. -/
def tas : Handler := fun _ r s =>
  let v := s.cpu.a &&& s.cpu.x
  storeHigh r v (s.setS v)

/-- `0x9B` aby (R336). -/
def execTasAby (a : Word) (s : State) : Host.Outcome State Fault Refusal :=
  instruction (.aby a) 3 5 false tas s

/-! ## Class extra (R338, R339) -/

/-- `0x04` zp (R338). -/
def execNopZp04 (z : Byte) (s : State) : Host.Outcome State Fault Refusal :=
  extra 0x04 (instruction (.zp z) 2 3 false nop) s

/-- `0x0C` abs (R338). -/
def execNopAbs0C (a : Word) (s : State) : Host.Outcome State Fault Refusal :=
  extra 0x0C (instruction (.abs a) 3 4 false nop) s

/-- `0x14` zpx (R338). -/
def execNopZpx14 (z : Byte) (s : State) : Host.Outcome State Fault Refusal :=
  extra 0x14 (instruction (.zpx z) 2 4 false nop) s

/-- `0x1A` imp (R338). -/
def execNop1A (s : State) : Host.Outcome State Fault Refusal :=
  extra 0x1A (instruction .imp 1 2 false nop) s

/-- `0x1C` abx (R338). -/
def execNopAbx1C (a : Word) (s : State) : Host.Outcome State Fault Refusal :=
  extra 0x1C (instruction (.abx a) 3 4 true nop) s

/-- `0x34` zpx (R338). -/
def execNopZpx34 (z : Byte) (s : State) : Host.Outcome State Fault Refusal :=
  extra 0x34 (instruction (.zpx z) 2 4 false nop) s

/-- `0x3A` imp (R338). -/
def execNop3A (s : State) : Host.Outcome State Fault Refusal :=
  extra 0x3A (instruction .imp 1 2 false nop) s

/-- `0x3C` abx (R338). -/
def execNopAbx3C (a : Word) (s : State) : Host.Outcome State Fault Refusal :=
  extra 0x3C (instruction (.abx a) 3 4 true nop) s

/-- `0x44` zp (R338). -/
def execNopZp44 (z : Byte) (s : State) : Host.Outcome State Fault Refusal :=
  extra 0x44 (instruction (.zp z) 2 3 false nop) s

/-- `0x54` zpx (R338). -/
def execNopZpx54 (z : Byte) (s : State) : Host.Outcome State Fault Refusal :=
  extra 0x54 (instruction (.zpx z) 2 4 false nop) s

/-- `0x5A` imp (R338). -/
def execNop5A (s : State) : Host.Outcome State Fault Refusal :=
  extra 0x5A (instruction .imp 1 2 false nop) s

/-- `0x5C` abx (R338). -/
def execNopAbx5C (a : Word) (s : State) : Host.Outcome State Fault Refusal :=
  extra 0x5C (instruction (.abx a) 3 4 true nop) s

/-- `0x64` zp (R338). -/
def execNopZp64 (z : Byte) (s : State) : Host.Outcome State Fault Refusal :=
  extra 0x64 (instruction (.zp z) 2 3 false nop) s

/-- `0x74` zpx (R338). -/
def execNopZpx74 (z : Byte) (s : State) : Host.Outcome State Fault Refusal :=
  extra 0x74 (instruction (.zpx z) 2 4 false nop) s

/-- `0x7A` imp (R338). -/
def execNop7A (s : State) : Host.Outcome State Fault Refusal :=
  extra 0x7A (instruction .imp 1 2 false nop) s

/-- `0x7C` abx (R338). -/
def execNopAbx7C (a : Word) (s : State) : Host.Outcome State Fault Refusal :=
  extra 0x7C (instruction (.abx a) 3 4 true nop) s

/-- `0x80` imm (R338). -/
def execNopImm80 (v : Byte) (s : State) : Host.Outcome State Fault Refusal :=
  extra 0x80 (instruction (.imm v) 2 2 false nop) s

/-- `0x82` imm (R338). -/
def execNopImm82 (v : Byte) (s : State) : Host.Outcome State Fault Refusal :=
  extra 0x82 (instruction (.imm v) 2 2 false nop) s

/-- `0x89` imm (R338). -/
def execNopImm89 (v : Byte) (s : State) : Host.Outcome State Fault Refusal :=
  extra 0x89 (instruction (.imm v) 2 2 false nop) s

/-- `0xC2` imm (R338). -/
def execNopImmC2 (v : Byte) (s : State) : Host.Outcome State Fault Refusal :=
  extra 0xC2 (instruction (.imm v) 2 2 false nop) s

/-- `0xD4` zpx (R338). -/
def execNopZpxD4 (z : Byte) (s : State) : Host.Outcome State Fault Refusal :=
  extra 0xD4 (instruction (.zpx z) 2 4 false nop) s

/-- `0xDA` imp (R338). -/
def execNopDA (s : State) : Host.Outcome State Fault Refusal :=
  extra 0xDA (instruction .imp 1 2 false nop) s

/-- `0xDC` abx (R338). -/
def execNopAbxDC (a : Word) (s : State) : Host.Outcome State Fault Refusal :=
  extra 0xDC (instruction (.abx a) 3 4 true nop) s

/-- `0xE2` imm (R338). -/
def execNopImmE2 (v : Byte) (s : State) : Host.Outcome State Fault Refusal :=
  extra 0xE2 (instruction (.imm v) 2 2 false nop) s

/-- `0xEB` imm (R339). -/
def execSbcImmEB (v : Byte) (s : State) : Host.Outcome State Fault Refusal :=
  extra 0xEB (instruction (.imm v) 2 2 false sbc) s

/-- `0xF4` zpx (R338). -/
def execNopZpxF4 (z : Byte) (s : State) : Host.Outcome State Fault Refusal :=
  extra 0xF4 (instruction (.zpx z) 2 4 false nop) s

/-- `0xFA` imp (R338). -/
def execNopFA (s : State) : Host.Outcome State Fault Refusal :=
  extra 0xFA (instruction .imp 1 2 false nop) s

/-- `0xFC` abx (R338). -/
def execNopAbxFC (a : Word) (s : State) : Host.Outcome State Fault Refusal :=
  extra 0xFC (instruction (.abx a) 3 4 true nop) s

/-! ## No handler (R159, R340) -/

/-- `0x02` no handler (R159). -/
def execIllegal02 (s : State) : Host.Outcome State Fault Refusal :=
  noHandler 0x02 s

/-- `0x12` no handler (R159). -/
def execIllegal12 (s : State) : Host.Outcome State Fault Refusal :=
  noHandler 0x12 s

/-- `0x22` no handler (R159). -/
def execIllegal22 (s : State) : Host.Outcome State Fault Refusal :=
  noHandler 0x22 s

/-- `0x32` no handler (R159). -/
def execIllegal32 (s : State) : Host.Outcome State Fault Refusal :=
  noHandler 0x32 s

/-- `0x42` no handler (R159). -/
def execIllegal42 (s : State) : Host.Outcome State Fault Refusal :=
  noHandler 0x42 s

/-- `0x52` no handler (R159). -/
def execIllegal52 (s : State) : Host.Outcome State Fault Refusal :=
  noHandler 0x52 s

/-- `0x62` no handler (R159). -/
def execIllegal62 (s : State) : Host.Outcome State Fault Refusal :=
  noHandler 0x62 s

/-- `0x72` no handler (R159). -/
def execIllegal72 (s : State) : Host.Outcome State Fault Refusal :=
  noHandler 0x72 s

/-- `0x92` no handler (R159). -/
def execIllegal92 (s : State) : Host.Outcome State Fault Refusal :=
  noHandler 0x92 s

/-- `0xAB` no handler (R159). -/
def execIllegalAB (s : State) : Host.Outcome State Fault Refusal :=
  noHandler 0xAB s

/-- `0xB2` no handler (R159). -/
def execIllegalB2 (s : State) : Host.Outcome State Fault Refusal :=
  noHandler 0xB2 s

/-- `0xD2` no handler (R159). -/
def execIllegalD2 (s : State) : Host.Outcome State Fault Refusal :=
  noHandler 0xD2 s

/-- `0xF2` no handler (R159). -/
def execIllegalF2 (s : State) : Host.Outcome State Fault Refusal :=
  noHandler 0xF2 s

end Sys2Proof.Machine
end

