-- ==== Sys2Proof/Machine/Step.lean ====
section
/-! DEFINITION. One step of the machine, a `MachineStep` (spec/63_console.md R700): `Cpu.Step()` (spec/30_encoding.md R156),
then three dots for each cycle it took. -/

namespace Sys2Proof.Machine

open Sys2Proof

/-- `MachineStep()` (R700). A faulted machine does not step (R401); an idle step serves one stall cycle (R156 step 1); any
other polls the interrupts, fetches, and executes one instruction. -/
def step (s : State) : Host.Outcome State Fault Refusal :=
  match s.fault with
  | some r => s.stopped r
  | none =>
    if s.cpu.idle > 0 then .next (s.idleStep.runDevices s)
    else
      match pollAndFetch s with
      | .error f => .fault f
      | .ok (i, s') => afterInstruction s (exec i s')

/-- `s` with a table word stored where the next step fetches its instruction, and nothing in the way of that fetch
(log 17). -/
def State.withFetchWord (s : State) (nbits w : Nat) : State :=
  match tableBytes nbits w with
  | [b0, b1, b2] => s.readyToFetch.placeAtPc b0 b1 b2
  | _ => s

end Sys2Proof.Machine
end

