-- ==== Sys2Proof/Machine/Frame.lean ====
section
/-! DEFINITION. The stepping loop around `step` (spec/63_console.md R700, R702, R703). -/

namespace Sys2Proof.Machine

open Sys2Proof

/-- The most `MachineStep`s a frame takes (R703). -/
def frameSteps : Nat := 29781

/-- `MachineStep()` repeated, at most `n` times, until the frame parity is not `f0` (R700). A fault ends the loop (R702). -/
def stepUntil (f0 : Bool) : Nat → State → Host.Outcome State Fault Refusal
  | 0, s => .next s
  | n + 1, s =>
    match step s with
    | .next t => if t.ppu.f = f0 then stepUntil f0 n t else .next t
    | .fault f => .fault f
    | .refused r => .refused r

/-- `GoUntilFrame()` (R700): the loop ends within the bound of R703 from every state that meets `State.Inv`, so the bound
cuts no run of the machine short (log 24 for other states). -/
def goUntilFrame (s : State) : Host.Outcome State Fault Refusal := stepUntil s.ppu.f frameSteps s

end Sys2Proof.Machine
end

