-- ==== Sys2Proof/Safety.lean ====
section
/-! DEFINITION. What a safe run is, the invariant of the machine, and the vocabulary of the claims: which addresses can be
read and written, the effective address of an operand, the encoding of an instruction. No step uses anything of this file. -/

namespace Sys2Proof.Machine

open Sys2Proof

/-! ## Runs -/

/-- The state a fault stopped in (R401, R402). -/
def Fault.stopped : Fault → State
  | .illegalOpcode _ _ t => t
  | .invalidAddress _ _ t => t
  | .readOnlyMemory _ t => t

/-- The record of a fault (R400). -/
def Fault.record : Fault → FaultRecord
  | .illegalOpcode op pc0 _ => .illegalOpcode op pc0
  | .invalidAddress a acc _ => .invalidAddress a acc
  | .readOnlyMemory a _ => .readOnlyMemory a

/-- A run of `n` steps is safe when none of them stops (R401: a faulted state is never a completed one). -/
def SafeRun : Nat → State → Prop
  | 0, _ => True
  | n + 1, s => ∃ t, step s = .next t ∧ SafeRun n t

/-! ## The invariant -/

/-- A framebuffer holds palette indexes 0 to 63 (R44). -/
def pixels (m : Memory) : Bool := m.all (fun c => decide (c.2 < 64))

/-- CPU state: `P.B` is 0 (R26, R453); an NMI delay runs only while an NMI is pending, and for at most `NMI_DELAY` polls
(R411, R412). -/
abbrev Cpu.Inv (c : Cpu) : Prop :=
  c.p.b = false ∧ c.nmiDelay ≤ nmiDelayPolls ∧ (c.nmiPending = true ∨ c.nmiDelay = 0)

/-- Bus state: RAM in canonical form (R32), `ctrlIndex` 0 to 8 (R33). -/
abbrev Bus.Inv (b : Bus) : Prop := b.ram.wf 2048 = true ∧ b.ctrlIndex ≤ 8

/-- PPU state: a raster position of the 262×341 frame (R34, R523), at most eight sprites (R37), `nmiLine` the edge detector's
last value (R42, R550), the arrays in canonical form (R36, R43, R44). -/
abbrev Ppu.Inv (u : Ppu) : Prop :=
  (u.scanline ≤ 261 ∧ u.cycle ≤ 340) ∧ u.spriteCount ≤ 8 ∧ u.nmiLine = (u.vblank && u.ctrl.nmiEnable) ∧
  u.oam.wf 256 = true ∧ u.vram.wf 2048 = true ∧ u.palette.wf 32 = true ∧
  (u.framebuffer.wf 61440 = true ∧ pixels u.framebuffer = true)

/-- MMC1's serial counter is 0 to 4 (R645). -/
def MapperRegs.ok : MapperRegs → Bool
  | .mmc1 r => decide (r.count ≤ 4)
  | .nrom => true
  | .uxrom _ => true
  | .cnrom _ => true
  | .mmc3 _ => true
  | .axrom _ => true
  | .colorDream _ _ => true
  | .gxrom _ _ => true
  | .mapper185 _ => true

/-- What the cartridge file fixes: bank counts of a header byte, at least one PRG bank (R601), PRG-ROM of its length (R45). -/
abbrev CartImage.Inv (m : CartImage) : Prop :=
  (1 ≤ m.prgRomBanks ∧ m.prgRomBanks ≤ 255) ∧ m.chrBanks ≤ 255 ∧ m.prgRom.wf m.prgLen = true

/-- Cartridge state: its arrays in canonical form at their lengths (R45), registers in range (R47). -/
abbrev Cart.Inv (k : Cart) : Prop :=
  k.image.Inv ∧ k.chr.wf k.image.chrLen = true ∧ k.prgRam.wf 8192 = true ∧ k.expRam.wf 8192 = true ∧ k.regs.ok = true

/-- The invariant of the machine: every array in its canonical form at its length, every counter in the range the spec gives. -/
abbrev State.Inv (s : State) : Prop := s.cpu.Inv ∧ s.bus.Inv ∧ s.ppu.Inv ∧ s.cart.Inv

/-! ## Addresses that can be read and written -/

/-- A CPU address that can be read in every state: all but `0x4020`–`0x5FFF` (R81, R603). -/
def readable (a : Word) : Bool := decide (a < 0x4020) || decide (0x6000 ≤ a)

/-- A CPU address and byte that can be written in state `s` (R82): a `$2007` write must not reach CHR-ROM (R604), the source
page of an OAM-DMA must be readable (R90), and `0x4020`–`0x5FFF` is decoded by no variant (R603). -/
def State.writable (s : State) (a : Word) (v : Byte) : Bool :=
  if a < 0x2000 then true
  else if a < 0x4000 then
    decide (ppuReg a ≠ 7) || decide (0x2000 ≤ s.ppu.v.toNat % 0x4000) || s.cart.image.usesChrRam
  else if a = 0x4014 then decide (v < 0x40) || decide (0x60 ≤ v)
  else readable a

/-- Two CPU addresses that select the same cell of internal RAM (R83). -/
def sameRamCell (a b : Word) : Bool := decide (a < 0x2000) && decide (b < 0x2000) && decide (ramIndex a = ramIndex b)

/-! ## Operands -/

/-- The 13 addressing modes (R142 to R154). -/
inductive Mode where
  | imp | acc | imm | zp | zpx | zpy | rel | abs | abx | aby | ind | izx | izy
deriving DecidableEq, Repr

/-- The mode of an operand. -/
def operandMode : Operand → Mode
  | .imp => .imp
  | .acc => .acc
  | .imm _ => .imm
  | .zp _ => .zp
  | .zpx _ => .zpx
  | .zpy _ => .zpy
  | .rel _ => .rel
  | .abs _ => .abs
  | .abx _ => .abx
  | .aby _ => .aby
  | .ind _ => .ind
  | .izx _ => .izx
  | .izy _ => .izy

/-- What the *Encodings* line of an instruction's rule says of one opcode (R200): value, mode, size, base cycles, `+p`. -/
structure Encoding where
  opcode : Byte
  mode : Mode
  size : Nat
  cycles : Nat
  pageCross : Bool
deriving DecidableEq, Repr

/-- The encoding of an instruction. -/
def encodingOf (i : Instr) : Encoding :=
  { opcode := i.opcode, mode := operandMode i.operand, size := i.size, cycles := i.row.cycles, pageCross := i.row.pageCross }

/-- The 16-bit pointer at zero-page address `z`, whose second byte wraps within the zero page (R153, R154). Page 0 is internal
RAM, so reading it has no side effect (R83). -/
def State.zpPointer (s : State) (z : Byte) : Word :=
  wordOf (s.bus.ram.read (ramIndex (zext16 (z + 1)))) (s.bus.ram.read (ramIndex (zext16 z)))

/-- The effective address of every mode but `ind`, as a function of the state (R142 to R151, R153, R154), with `PC` at the
opcode byte. The pointer of `ind` can lie in device space: for it this is the pointer itself, not the target. -/
def State.target (s : State) : Operand → Resolved
  | .imp => .plain 0
  | .acc => .plain 0
  | .imm _ => .plain (s.cpu.pc + 1)
  | .zp z => .plain (zext16 z)
  | .zpx z => .plain (zext16 (z + s.cpu.x))
  | .zpy z => .plain (zext16 (z + s.cpu.y))
  | .rel d => .plain (s.cpu.pc + 2 + sext16 d)
  | .abs a => .plain a
  | .abx a => .indexed a s.cpu.x
  | .aby a => .indexed a s.cpu.y
  | .ind p => .plain p
  | .izx z => .plain (s.zpPointer (z + s.cpu.x))
  | .izy z => .indexed (s.zpPointer z) s.cpu.y

/-- The state in which the operation of instruction `i` runs (R156 step 6): `PC` past the instruction, the base and page-cross
cycles charged, nothing else changed. -/
def State.advanced (s : State) (i : Instr) : State :=
  { s with cpu := { s.cpu with
      pc := s.cpu.pc + BitVec.ofNat 16 i.size,
      cycles := s.cpu.cycles + i.row.cycles + (if i.row.pageCross && (s.target i.operand).crossed then 1 else 0) } }

/-- Instruction `i`, run in state `s`, is of a form that stores to the address `ea` of its operand (R204 to R206, R260, R321 to
R327): the effective address, but for SHA, SHX, SHY and TAS the address whose high byte a crossed page replaces (R341). The pushes
to the stack are not among these forms. -/
def State.StoresTo (s : State) (i : Instr) (ea : Word) : Prop :=
  let r := s.target i.operand
  let high (reg : Byte) : Word :=
    let v := reg &&& (hiByte r.base + 1)
    if r.crossed then wordOf v (loByte r.ea) else r.ea
  (i.mnemonic ∈ [.sta, .stx, .sty, .sax, .inc, .dec, .asl, .lsr, .rol, .ror, .dcp, .isc, .slo, .rla, .sre, .rra] ∧
      operandMode i.operand ≠ .acc ∧ ea = r.ea) ∨
    (i.mnemonic ∈ [.sha, .tas] ∧ ea = high (s.cpu.a &&& s.cpu.x)) ∨
    (i.mnemonic = .shx ∧ ea = high s.cpu.x) ∨ (i.mnemonic = .shy ∧ ea = high s.cpu.y)

/-- Whether the data read of an operand succeeds: A and an immediate byte need no access, memory must be readable. -/
def State.operandReadable (s : State) (o : Operand) : Bool :=
  match operandMode o with
  | .acc => true
  | .imm => true
  | _ => readable (s.target o).ea

/-- The data read of instruction `i` in state `s` gives byte `m` and leaves state `t` (R156 step 7, R143, R144). -/
def State.Reads (s : State) (i : Instr) (m : Byte) (t : State) : Prop :=
  readOperand i.operand (s.target i.operand) (s.advanced i) = .ok (m, t)

/-- `s` with other flags, for the results that the claims state. -/
def State.flags (s : State) (f : Flags → Flags) : State := { s with cpu := { s.cpu with p := f s.cpu.p } }

end Sys2Proof.Machine
end

