-- ==== Sys2Proof/Certificates/Slice0/Obligations.lean ====
section
/-! DEFINITION. The statements for the provers. Vocabulary: `s.target o` is the effective address of operand `o` (R142 to
R154), `s.advanced i` the state in which the operation of `i` runs (R156 step 6), `s.Reads i m t` its data read,
`encodingOf i` its row (all in Sys2Proof/Safety.lean). -/

open Sys2Proof Sys2Proof.Machine

/-! ## Encoding -/

/-- Decoding the encoding of any instruction, whatever follows it, gives the instruction and what follows (R140, R141, R158).
BRK's padding byte is the encoder's choice (log 15). -/
def Obligations.DecodeEncode : Prop :=
  ∀ (i : Instr) (rest : List Byte), decode (encode i ++ rest) = .ok (i, rest)

/-- The bytes that decode to an instruction are its encoding (R140, R141, R158); only BRK, whose second byte is padding (R284),
has others: its opcode with any padding byte, or with none at the end of the bytes (log 15). The padding byte is the spec's
decision D17. -/
def Obligations.DecodeDetermines : Prop :=
  ∀ (bs rest : List Byte) (i : Instr), decode bs = .ok (i, rest) →
    (i ≠ .brk → bs = encode i ++ rest) ∧
    (i = .brk → ∃ pad : List Byte, bs = 0x00 :: (pad ++ rest) ∧ (pad.length = 1 ∨ (pad = [] ∧ rest = [])))

/-- Words written out from the encodings of R141 and R158, one for each family, and the size of each class of opcode (R158). The
opcode values and the classes are the spec's decisions D5 and D6. -/
def Obligations.DecodedWords : Prop :=
  (decode [0xBD, 0xFF, 0x10] = .ok (.ldaAbx 0x10FF, []) ∧ decode [0x91, 0x40] = .ok (.staIzy 0x40, []) ∧
    decode [0xAA] = .ok (.tax, []) ∧ decode [0x48] = .ok (.pha, []) ∧ decode [0x69, 0x50] = .ok (.adcImm 0x50, []) ∧
    decode [0x01, 0x20] = .ok (.oraIzx 0x20, []) ∧ decode [0x7E, 0xFF, 0x03] = .ok (.rorAbx 0x03FF, []) ∧
    decode [0x6C, 0xFF, 0x02] = .ok (.jmpInd 0x02FF, []) ∧ decode [0xD0, 0xFE] = .ok (.bne 0xFE, []) ∧
    decode [0x78] = .ok (.sei, []) ∧ decode [0xB7, 0x10] = .ok (.laxZpy 0x10, []) ∧
    decode [0x9C, 0xF0, 0x06] = .ok (.shyAbx 0x06F0, []) ∧ decode [0x1C, 0xFF, 0x12] = .ok (.nopAbx1C 0x12FF, []) ∧
    decode [0xAB] = .ok (.illegalAB, []) ∧ decode [0x8D, 0x14] = .error (.truncated 0x8D) ∧
    decode [] = .error .noBytes) ∧
  let cls (n : Nat) : Option OpClass :=
    match decode [BitVec.ofNat 8 n, 0, 0] with
    | .ok (i, _) => if i.opcode = BitVec.ofNat 8 n then some i.cls else none
    | .error _ => none
  (List.range 256).countP (fun n => cls n == some .official) = 151 ∧
  (List.range 256).countP (fun n => cls n == some .unofficial) = 64 ∧
  (List.range 256).countP (fun n => cls n == some .extra) = 28 ∧
  (List.range 256).countP (fun n => cls n == some .illegal) = 13

/-! ## The step -/

/-- A step runs the decoded instruction (R156, R700): with nothing stalled, the poll comes first; where the bytes at `PC` after
it are the opcode and operand bytes of a well-formed instruction in storage, the step is that instruction's `exec`, followed by
three pairs of `Ppu.Step()` and `Mapper.Step()` for each cycle the step took. That the pairs alternate, PPU first, is the spec's
decision D37. -/
def Obligations.StepRunsDecoded : Prop :=
  ∀ (s t : State) (i : Instr), s.fault = none → s.cpu.idle = 0 → interruptPoll s = .ok t →
    i.wellFormed t.unofficialExtras = true → peek t.cpu.pc t = some i.opcode →
    (∀ k b, i.operand.bytes[k]? = some b → peek (t.cpu.pc + 1 + BitVec.ofNat 16 k) t = some b) →
    step s = match exec i t with
      | .next u => .next (State.devices (3 * (u.cpu.cycles - s.cpu.cycles)) u)
      | .fault f => .fault f
      | .refused r => .refused r

/-- An opcode of class illegal, or of class extra while `UNOFFICIAL_EXTRAS` is false, stops the machine with `IllegalOpcode`,
both as the meaning of the instruction and when a step fetches it: no register changes but by the poll before; class illegal is
the thirteen opcodes of R159, a list by the spec's decision D6 (R159, R160, R340, R402). That the fault carries the stopped
state is log 11, that both the fetch and the meaning raise it is log 14. What the fault records is the spec's decision D33. -/
def Obligations.UndispatchedStops : Prop :=
  ∀ (i : Instr) (t : State), (i.cls = .illegal ∨ (i.cls = .extra ∧ t.unofficialExtras = false)) →
    let record := FaultRecord.illegalOpcode i.opcode t.cpu.pc
    let stop := Fault.illegalOpcode i.opcode t.cpu.pc { t with fault := some record }
    exec i t = .fault stop ∧
    (∀ s : State, s.fault = none → s.cpu.idle = 0 → interruptPoll s = .ok t → peek t.cpu.pc t = some i.opcode →
      step s = .fault stop) ∧
    (i.cls = .illegal → i.opcode ∈ [0x02, 0x12, 0x22, 0x32, 0x42, 0x52, 0x62, 0x72, 0x92, 0xB2, 0xD2, 0xF2, 0xAB])

/-- A faulted machine does not step again and keeps its state (R401); an idle step serves one stall cycle: it polls nothing,
executes nothing, and runs three dots (R156 step 1, R700). That a faulted machine answers its fault again is log 11. Loading a
snapshot restores the four parts of the state and leaves the fault, which only a reset clears (R401, R607, R702, R706); that it
leaves the model's own fields and the open parameter too is the model's choice (log 28). That an idle step takes one cycle is
the spec's decision D13, that a fault stays until a reset its decision D33. -/
def Obligations.StepsThatExecuteNothing : Prop :=
  (∀ (s : State) (r : FaultRecord), s.fault = some r →
    ∃ f, step s = .fault f ∧ f.record = r ∧ f.stopped = s) ∧
  (∀ s : State, s.fault = none → 0 < s.cpu.idle →
    step s = .next (State.devices 3
      { s with cpu := { s.cpu with idle := s.cpu.idle - 1, cycles := s.cpu.cycles + 1 } })) ∧
  (∀ s snap t : State, s.loadState snap = some t →
    t = { snap with fault := s.fault, unofficialExtras := s.unofficialExtras, draws := s.draws,
                    buttonInputs := s.buttonInputs, lastFrame := s.lastFrame }) ∧
  (∀ s : State, s.loadState s.saveState = some s ∧ s.resetMachine.fault = none)

/-- A step that stops leaves the record of its fault in the stopped state, one that goes on leaves `fault` empty, and no step is
refused (R400, R401; log 11). What a fault records is the spec's decision D33. -/
def Obligations.StepFaultIsRecorded : Prop :=
  ∀ s : State, s.fault = none →
    (∀ f, step s = .fault f → f.stopped.fault = some f.record) ∧
    (∀ t, step s = .next t → t.fault = none) ∧
    (∀ r, step s ≠ .refused r)

/-- A stall ends by itself: `idle` steps serve it, none of them stops, executes an instruction or serves an interrupt, and each
takes one cycle (R435, R156 step 1). That an idle step takes one cycle is the spec's decision D13. -/
def Obligations.StallRunsOut : Prop :=
  ∀ (n : Nat) (s : State), s.fault = none → s.cpu.idle = n →
    ∃ t, Host.Core.run Sys2Proof.core n s = .next t ∧ t.fault = none ∧ t.cpu.idle = 0 ∧
      t.cpu.cycles = s.cpu.cycles + n ∧ t.cpu.pc = s.cpu.pc ∧ t.cpu.a = s.cpu.a ∧ t.cpu.x = s.cpu.x ∧
      t.cpu.y = s.cpu.y ∧ t.cpu.s = s.cpu.s ∧ t.cpu.p = s.cpu.p ∧ t.bus = s.bus

/-! ## The invariant -/

/-- The state after reset meets the invariant. -/
def Obligations.ResetMeetsInvariant : Prop := State.reset.Inv

/-- Every step keeps the invariant: canonical arrays, a valid raster position, at most eight sprites, `P.B` clear, the NMI edge
detector in agreement with its inputs; a step that stops leaves a state that meets it too: a fault corrupts nothing (R401,
R402). What a fault leaves is the spec's decision D33, that nothing sets `P.B` its decision D2, the NMI edge detector its
decision D26. -/
def Obligations.StepKeepsInvariant : Prop :=
  ∀ s : State, s.Inv → (∀ t, step s = .next t → t.Inv) ∧ (∀ f, step s = .fault f → f.stopped.Inv)

/-! ## Operands -/

/-- The effective address, base and page-cross flag of every mode but `ind`, as numbers; resolving these modes has no side
effect (R142 to R151, R153, R154). The pointers of `izx` and `izy` are bytes of page 0, of internal RAM. The operand bytes are
those of the decoded instruction (log 16). The modes are those of the spec's decision D5, and addresses wrap without fault by
its decision D9. -/
def Obligations.EffectiveAddress : Prop :=
  ∀ (s : State) (z : Byte) (a : Word),
    let page0 (k : Nat) : Nat := (s.bus.ram.read (k % 256)).toNat
    let izyBase : Nat := 256 * page0 (z.toNat + 1) + page0 z.toNat
    (∃ r, resolve (.imm z) s = .ok (r, s) ∧ r.ea.toNat = (s.cpu.pc.toNat + 1) % 65536 ∧ r.crossed = false) ∧
    (∃ r, resolve (.zp z) s = .ok (r, s) ∧ r.ea.toNat = z.toNat ∧ r.crossed = false) ∧
    (∃ r, resolve (.zpx z) s = .ok (r, s) ∧ r.ea.toNat = (z.toNat + s.cpu.x.toNat) % 256 ∧ r.crossed = false) ∧
    (∃ r, resolve (.zpy z) s = .ok (r, s) ∧ r.ea.toNat = (z.toNat + s.cpu.y.toNat) % 256 ∧ r.crossed = false) ∧
    (∃ r, resolve (.rel z) s = .ok (r, s) ∧
      (r.ea.toNat : Int) = ((s.cpu.pc.toNat : Int) + 2 + z.toInt) % 65536 ∧ r.crossed = false) ∧
    (∃ r, resolve (.abs a) s = .ok (r, s) ∧ r.ea = a ∧ r.crossed = false) ∧
    (∃ r, resolve (.abx a) s = .ok (r, s) ∧ r.base = a ∧ r.ea.toNat = (a.toNat + s.cpu.x.toNat) % 65536 ∧
      r.crossed = decide (r.ea.toNat / 256 ≠ a.toNat / 256)) ∧
    (∃ r, resolve (.aby a) s = .ok (r, s) ∧ r.base = a ∧ r.ea.toNat = (a.toNat + s.cpu.y.toNat) % 65536 ∧
      r.crossed = decide (r.ea.toNat / 256 ≠ a.toNat / 256)) ∧
    (∃ r, resolve (.izx z) s = .ok (r, s) ∧ r.crossed = false ∧
      r.ea.toNat = 256 * page0 (z.toNat + s.cpu.x.toNat + 1) + page0 (z.toNat + s.cpu.x.toNat)) ∧
    (∃ r, resolve (.izy z) s = .ok (r, s) ∧ r.base.toNat = izyBase ∧
      r.ea.toNat = (izyBase + s.cpu.y.toNat) % 65536 ∧ r.crossed = decide (r.ea.toNat / 256 ≠ izyBase / 256)) ∧
    (∃ r, resolve .imp s = .ok (r, s) ∧ r.crossed = false) ∧
    (∃ r, resolve .acc s = .ok (r, s) ∧ r.crossed = false)

/-! ## Loads and stores -/

/-- LDA, LDX, LDY and the unofficial LAX: their encodings; and, from every state in which the operand can be read, the register
holds the byte read, Z and N tell it, nothing else changes beyond the read itself (R201, R202, R203, R320). -/
def Obligations.LoadResults : Prop :=
  ∀ (i : Instr) (s : State),
    (i.mnemonic = .lda →
      encodingOf i ∈ [⟨0xA9, .imm, 2, 2, false⟩, ⟨0xA5, .zp, 2, 3, false⟩, ⟨0xB5, .zpx, 2, 4, false⟩,
        ⟨0xAD, .abs, 3, 4, false⟩, ⟨0xBD, .abx, 3, 4, true⟩, ⟨0xB9, .aby, 3, 4, true⟩, ⟨0xA1, .izx, 2, 6, false⟩,
        ⟨0xB1, .izy, 2, 5, true⟩] ∧
      (s.operandReadable i.operand = true → ∃ m t, s.Reads i m t ∧
        exec i s = .next ((t.setA m).flags (fun p => { p with z := decide (m = 0), n := m.getLsbD 7 })))) ∧
    (i.mnemonic = .ldx →
      encodingOf i ∈ [⟨0xA2, .imm, 2, 2, false⟩, ⟨0xA6, .zp, 2, 3, false⟩, ⟨0xB6, .zpy, 2, 4, false⟩,
        ⟨0xAE, .abs, 3, 4, false⟩, ⟨0xBE, .aby, 3, 4, true⟩] ∧
      (s.operandReadable i.operand = true → ∃ m t, s.Reads i m t ∧
        exec i s = .next ((t.setX m).flags (fun p => { p with z := decide (m = 0), n := m.getLsbD 7 })))) ∧
    (i.mnemonic = .ldy →
      encodingOf i ∈ [⟨0xA0, .imm, 2, 2, false⟩, ⟨0xA4, .zp, 2, 3, false⟩, ⟨0xB4, .zpx, 2, 4, false⟩,
        ⟨0xAC, .abs, 3, 4, false⟩, ⟨0xBC, .abx, 3, 4, true⟩] ∧
      (s.operandReadable i.operand = true → ∃ m t, s.Reads i m t ∧
        exec i s = .next ((t.setY m).flags (fun p => { p with z := decide (m = 0), n := m.getLsbD 7 })))) ∧
    (i.mnemonic = .lax →
      encodingOf i ∈ [⟨0xA7, .zp, 2, 3, false⟩, ⟨0xB7, .zpy, 2, 4, false⟩, ⟨0xAF, .abs, 3, 4, false⟩,
        ⟨0xBF, .aby, 3, 4, true⟩, ⟨0xA3, .izx, 2, 6, false⟩, ⟨0xB3, .izy, 2, 5, true⟩] ∧
      (s.operandReadable i.operand = true → ∃ m t, s.Reads i m t ∧
        exec i s = .next (((t.setA m).setX m).flags
          (fun p => { p with z := decide (m = 0), n := m.getLsbD 7 }))))

/-- STA, STX, STY and the unofficial SAX: their encodings; and, where the write is possible, the state after is that of the one
bus write of the register (of A and X for SAX) to the effective address, no flag written (R204, R205, R206, R321). -/
def Obligations.StoreResults : Prop :=
  ∀ (i : Instr) (s : State),
    let completes (v : Byte) : Prop := s.writable (s.target i.operand).ea v = true →
      ∃ t, memWrite (s.target i.operand).ea v (s.advanced i) = .ok t ∧ exec i s = .next t
    (i.mnemonic = .sta →
      encodingOf i ∈ [⟨0x85, .zp, 2, 3, false⟩, ⟨0x95, .zpx, 2, 4, false⟩, ⟨0x8D, .abs, 3, 4, false⟩,
        ⟨0x9D, .abx, 3, 5, false⟩, ⟨0x99, .aby, 3, 5, false⟩, ⟨0x81, .izx, 2, 6, false⟩, ⟨0x91, .izy, 2, 6, false⟩] ∧
      completes s.cpu.a) ∧
    (i.mnemonic = .stx →
      encodingOf i ∈ [⟨0x86, .zp, 2, 3, false⟩, ⟨0x96, .zpy, 2, 4, false⟩, ⟨0x8E, .abs, 3, 4, false⟩] ∧
      completes s.cpu.x) ∧
    (i.mnemonic = .sty →
      encodingOf i ∈ [⟨0x84, .zp, 2, 3, false⟩, ⟨0x94, .zpx, 2, 4, false⟩, ⟨0x8C, .abs, 3, 4, false⟩] ∧
      completes s.cpu.y) ∧
    (i.mnemonic = .sax →
      encodingOf i ∈ [⟨0x87, .zp, 2, 3, false⟩, ⟨0x97, .zpy, 2, 4, false⟩, ⟨0x8F, .abs, 3, 4, false⟩,
        ⟨0x83, .izx, 2, 6, false⟩] ∧
      completes (s.cpu.a &&& s.cpu.x))

/-! ## Transfers and the stack -/

/-- TAX, TAY, TXA, TYA, TSX and TXS from every state: one byte, two cycles, the register copied; all but TXS set Z and N
(R221 to R226). -/
def Obligations.TransferResults : Prop :=
  ∀ s : State,
    let next : State := { s with cpu := { s.cpu with pc := s.cpu.pc + 1, cycles := s.cpu.cycles + 2 } }
    let zn (v : Byte) (t : State) : State := t.flags (fun p => { p with z := decide (v = 0), n := v.getLsbD 7 })
    (encodingOf .tax = ⟨0xAA, .imp, 1, 2, false⟩ ∧ exec .tax s = .next (zn s.cpu.a (next.setX s.cpu.a))) ∧
    (encodingOf .tay = ⟨0xA8, .imp, 1, 2, false⟩ ∧ exec .tay s = .next (zn s.cpu.a (next.setY s.cpu.a))) ∧
    (encodingOf .txa = ⟨0x8A, .imp, 1, 2, false⟩ ∧ exec .txa s = .next (zn s.cpu.x (next.setA s.cpu.x))) ∧
    (encodingOf .tya = ⟨0x98, .imp, 1, 2, false⟩ ∧ exec .tya s = .next (zn s.cpu.y (next.setA s.cpu.y))) ∧
    (encodingOf .tsx = ⟨0xBA, .imp, 1, 2, false⟩ ∧ exec .tsx s = .next (zn s.cpu.s (next.setX s.cpu.s))) ∧
    (encodingOf .txs = ⟨0x9A, .imp, 1, 2, false⟩ ∧ exec .txs s = .next (next.setS s.cpu.x))

/-- `Push` writes the byte at `0x0100 + S` of internal RAM and lowers `S` modulo 256; `Pull` raises `S` modulo 256 and reads
there; neither can fault; a word is pushed high byte first and pulled low byte first (R220). The status byte is N V 1 b4 D I Z C
from bit 7 down (R27); `SetStatus` takes C, Z, I, D, V, N from it and leaves `P.B` alone (R28), so that pulling what was pushed
restores the flags; the bit positions are the spec's decision D1, the treatment of `P.B` its decision D2. -/
def Obligations.StackAndStatusByte : Prop :=
  (∀ (s : State) (v : Byte) (w : Word),
    push v s = .ok ((s.setRam (s.bus.ram.write (0x100 + s.cpu.s.toNat) v)).setS (s.cpu.s - 1)) ∧
    pull s = .ok (s.bus.ram.read (0x100 + (s.cpu.s.toNat + 1) % 256), s.setS (s.cpu.s + 1)) ∧
    pushWord w s = .ok ((s.setRam ((s.bus.ram.write (0x100 + s.cpu.s.toNat) (hiByte w)).write
      (0x100 + (s.cpu.s.toNat + 255) % 256) (loByte w))).setS (s.cpu.s - 2)) ∧
    (∃ r, pullWord s = .ok (r, s.setS (s.cpu.s + 2)) ∧
      r.toNat = 256 * (s.bus.ram.read (0x100 + (s.cpu.s.toNat + 2) % 256)).toNat +
        (s.bus.ram.read (0x100 + (s.cpu.s.toNat + 1) % 256)).toNat)) ∧
  (∀ (p : Flags) (b4 : Bool) (v : Byte),
    (p.statusByte b4).toNat = 128 * p.n.toNat + 64 * p.v.toNat + 32 + 16 * b4.toNat + 8 * p.d.toNat + 4 * p.i.toNat +
      2 * p.z.toNat + p.c.toNat ∧
    p.setStatus v = { c := v.getLsbD 0, z := v.getLsbD 1, i := v.getLsbD 2, d := v.getLsbD 3, b := p.b,
                      v := v.getLsbD 6, n := v.getLsbD 7 } ∧
    p.setStatus (p.statusByte b4) = p)

/-- PHA, PHP, PLA and PLP from every state (R227 to R230). PHP pushes the flags with bits 4 and 5 set. The layout of the status
byte is the spec's decision D1; that bit 4 is 1 for PHP, that PLP ignores bits 4 and 5 and that `P.B` stays are its decision D2.
-/
def Obligations.PushPullResults : Prop :=
  ∀ s : State,
    let next (cycles : Nat) : State :=
      { s with cpu := { s.cpu with pc := s.cpu.pc + 1, cycles := s.cpu.cycles + cycles } }
    let pushed (v : Byte) : State :=
      ((next 3).setRam (s.bus.ram.write (0x100 + s.cpu.s.toNat) v)).setS (s.cpu.s - 1)
    let m := s.bus.ram.read (0x100 + (s.cpu.s.toNat + 1) % 256)
    (encodingOf .pha = ⟨0x48, .imp, 1, 3, false⟩ ∧ exec .pha s = .next (pushed s.cpu.a)) ∧
    (encodingOf .php = ⟨0x08, .imp, 1, 3, false⟩ ∧ exec .php s = .next (pushed (s.cpu.p.statusByte true))) ∧
    (encodingOf .pla = ⟨0x68, .imp, 1, 4, false⟩ ∧
      exec .pla s = .next ((((next 4).setS (s.cpu.s + 1)).setA m).flags
        (fun p => { p with z := decide (m = 0), n := m.getLsbD 7 }))) ∧
    (encodingOf .plp = ⟨0x28, .imp, 1, 4, false⟩ ∧
      exec .plp s = .next (((next 4).setS (s.cpu.s + 1)).flags (fun p => p.setStatus m)))

/-! ## Logic and arithmetic -/

/-- AND, ORA, EOR and BIT: their encodings, and their results from every state in which the operand can be read (R241 to
R244). -/
def Obligations.LogicResults : Prop :=
  ∀ (i : Instr) (s : State),
    let result (f : Byte → Byte) : Prop := s.operandReadable i.operand = true → ∃ m t, s.Reads i m t ∧
      exec i s = .next ((t.setA (f m)).flags (fun p => { p with z := decide (f m = 0), n := (f m).getLsbD 7 }))
    (i.mnemonic = .and →
      encodingOf i ∈ [⟨0x29, .imm, 2, 2, false⟩, ⟨0x25, .zp, 2, 3, false⟩, ⟨0x35, .zpx, 2, 4, false⟩,
        ⟨0x2D, .abs, 3, 4, false⟩, ⟨0x3D, .abx, 3, 4, true⟩, ⟨0x39, .aby, 3, 4, true⟩, ⟨0x21, .izx, 2, 6, false⟩,
        ⟨0x31, .izy, 2, 5, true⟩] ∧ result (fun m => s.cpu.a &&& m)) ∧
    (i.mnemonic = .ora →
      encodingOf i ∈ [⟨0x09, .imm, 2, 2, false⟩, ⟨0x05, .zp, 2, 3, false⟩, ⟨0x15, .zpx, 2, 4, false⟩,
        ⟨0x0D, .abs, 3, 4, false⟩, ⟨0x1D, .abx, 3, 4, true⟩, ⟨0x19, .aby, 3, 4, true⟩, ⟨0x01, .izx, 2, 6, false⟩,
        ⟨0x11, .izy, 2, 5, true⟩] ∧ result (fun m => s.cpu.a ||| m)) ∧
    (i.mnemonic = .eor →
      encodingOf i ∈ [⟨0x49, .imm, 2, 2, false⟩, ⟨0x45, .zp, 2, 3, false⟩, ⟨0x55, .zpx, 2, 4, false⟩,
        ⟨0x4D, .abs, 3, 4, false⟩, ⟨0x5D, .abx, 3, 4, true⟩, ⟨0x59, .aby, 3, 4, true⟩, ⟨0x41, .izx, 2, 6, false⟩,
        ⟨0x51, .izy, 2, 5, true⟩] ∧ result (fun m => s.cpu.a ^^^ m)) ∧
    (i.mnemonic = .bit →
      encodingOf i ∈ [⟨0x24, .zp, 2, 3, false⟩, ⟨0x2C, .abs, 3, 4, false⟩] ∧
      (s.operandReadable i.operand = true → ∃ m t, s.Reads i m t ∧
        exec i s = .next (t.flags (fun p =>
          { p with z := decide (s.cpu.a &&& m = 0), v := m.getLsbD 6, n := m.getLsbD 7 }))))

/-- ADC and SBC, and the unofficial SBC `0xEB` where `UNOFFICIAL_EXTRAS` is true: their encodings, and their results from every
state in which the operand can be read. The sum is exact, of A, the operand (complemented for SBC) and the carry; C is its carry
out, V says that the signed sum is outside -128 to 127; `P.D` does not matter (R245, R246, R251, R339). That `P.D` is not read
is the spec's decision D4; `0xEB` is left open by its decision D6, where the model's value is a choice (log 3). -/
def Obligations.ArithmeticResults : Prop :=
  ∀ (i : Instr) (s : State),
    let result (f : Byte → Byte) : Prop := s.operandReadable i.operand = true → ∃ m t, s.Reads i m t ∧
      let sum : Nat := s.cpu.a.toNat + (f m).toNat + s.cpu.p.c.toNat
      let signed : Int := s.cpu.a.toInt + (f m).toInt + s.cpu.p.c.toNat
      let r := BitVec.ofNat 8 sum
      exec i s = .next ((t.setA r).flags (fun p =>
        { p with c := decide (255 < sum), v := decide (signed < -128 ∨ 127 < signed), z := decide (r = 0),
                 n := r.getLsbD 7 }))
    (i.mnemonic = .adc →
      encodingOf i ∈ [⟨0x69, .imm, 2, 2, false⟩, ⟨0x65, .zp, 2, 3, false⟩, ⟨0x75, .zpx, 2, 4, false⟩,
        ⟨0x6D, .abs, 3, 4, false⟩, ⟨0x7D, .abx, 3, 4, true⟩, ⟨0x79, .aby, 3, 4, true⟩, ⟨0x61, .izx, 2, 6, false⟩,
        ⟨0x71, .izy, 2, 5, true⟩] ∧ result (fun m => m)) ∧
    (i.mnemonic = .sbc →
      encodingOf i ∈ [⟨0xE9, .imm, 2, 2, false⟩, ⟨0xE5, .zp, 2, 3, false⟩, ⟨0xF5, .zpx, 2, 4, false⟩,
        ⟨0xED, .abs, 3, 4, false⟩, ⟨0xFD, .abx, 3, 4, true⟩, ⟨0xF9, .aby, 3, 4, true⟩, ⟨0xE1, .izx, 2, 6, false⟩,
        ⟨0xF1, .izy, 2, 5, true⟩, ⟨0xEB, .imm, 2, 2, false⟩] ∧
      (i.wellFormed s.unofficialExtras = true → result (fun m => m ^^^ 0xFF)))

/-- CMP, CPX and CPY: their encodings, and their results from every state in which the operand can be read: an unsigned
comparison that writes only C, Z and N (R247, R248, R249, R252). -/
def Obligations.CompareResults : Prop :=
  ∀ (i : Instr) (s : State),
    let result (r : Byte) : Prop := s.operandReadable i.operand = true → ∃ m t, s.Reads i m t ∧
      exec i s = .next (t.flags (fun p =>
        { p with c := decide (m.toNat ≤ r.toNat), z := decide (r = m), n := (r - m).getLsbD 7 }))
    (i.mnemonic = .cmp →
      encodingOf i ∈ [⟨0xC9, .imm, 2, 2, false⟩, ⟨0xC5, .zp, 2, 3, false⟩, ⟨0xD5, .zpx, 2, 4, false⟩,
        ⟨0xCD, .abs, 3, 4, false⟩, ⟨0xDD, .abx, 3, 4, true⟩, ⟨0xD9, .aby, 3, 4, true⟩, ⟨0xC1, .izx, 2, 6, false⟩,
        ⟨0xD1, .izy, 2, 5, true⟩] ∧ result s.cpu.a) ∧
    (i.mnemonic = .cpx →
      encodingOf i ∈ [⟨0xE0, .imm, 2, 2, false⟩, ⟨0xE4, .zp, 2, 3, false⟩, ⟨0xEC, .abs, 3, 4, false⟩] ∧
      result s.cpu.x) ∧
    (i.mnemonic = .cpy →
      encodingOf i ∈ [⟨0xC0, .imm, 2, 2, false⟩, ⟨0xC4, .zp, 2, 3, false⟩, ⟨0xCC, .abs, 3, 4, false⟩] ∧
      result s.cpu.y)

/-! ## Increments, shifts -/

/-- INC and DEC: encodings, and one read and one write where both are possible; INX, INY, DEX, DEY from every state. All wrap
modulo 256 and write only Z and N (R261 to R266). -/
def Obligations.IncrementResults : Prop :=
  ∀ (i : Instr) (s : State),
    let ea := (s.target i.operand).ea
    let zn (v : Byte) (t : State) : State := t.flags (fun p => { p with z := decide (v = 0), n := v.getLsbD 7 })
    let modifies (f : Byte → Byte) : Prop := s.operandReadable i.operand = true → ∃ m t, s.Reads i m t ∧
      (t.writable ea (f m) = true → ∃ u, memWrite ea (f m) t = .ok u ∧ exec i s = .next (zn (f m) u))
    let next : State := { s with cpu := { s.cpu with pc := s.cpu.pc + 1, cycles := s.cpu.cycles + 2 } }
    (i.mnemonic = .inc →
      encodingOf i ∈ [⟨0xE6, .zp, 2, 5, false⟩, ⟨0xF6, .zpx, 2, 6, false⟩, ⟨0xEE, .abs, 3, 6, false⟩,
        ⟨0xFE, .abx, 3, 7, false⟩] ∧ modifies (fun m => m + 1)) ∧
    (i.mnemonic = .dec →
      encodingOf i ∈ [⟨0xC6, .zp, 2, 5, false⟩, ⟨0xD6, .zpx, 2, 6, false⟩, ⟨0xCE, .abs, 3, 6, false⟩,
        ⟨0xDE, .abx, 3, 7, false⟩] ∧ modifies (fun m => m - 1)) ∧
    (encodingOf .inx = ⟨0xE8, .imp, 1, 2, false⟩ ∧
      exec .inx s = .next (zn (s.cpu.x + 1) (next.setX (s.cpu.x + 1)))) ∧
    (encodingOf .iny = ⟨0xC8, .imp, 1, 2, false⟩ ∧
      exec .iny s = .next (zn (s.cpu.y + 1) (next.setY (s.cpu.y + 1)))) ∧
    (encodingOf .dex = ⟨0xCA, .imp, 1, 2, false⟩ ∧
      exec .dex s = .next (zn (s.cpu.x - 1) (next.setX (s.cpu.x - 1)))) ∧
    (encodingOf .dey = ⟨0x88, .imp, 1, 2, false⟩ ∧
      exec .dey s = .next (zn (s.cpu.y - 1) (next.setY (s.cpu.y - 1))))

/-- ASL, LSR, ROL and ROR: encodings; the memory forms read once and write once where both are possible, the accumulator forms
complete from every state. The result is a nine-bit shift of carry and operand: C gets the bit shifted out, the old carry
enters ROL at bit 0 and ROR at bit 7, ASL and LSR shift in 0 (R260, R267 to R270). -/
def Obligations.ShiftResults : Prop :=
  ∀ (i : Instr) (s : State),
    let c : Nat := s.cpu.p.c.toNat
    let zn (v : Byte) (t : State) : State := t.flags (fun p => { p with z := decide (v = 0), n := v.getLsbD 7 })
    let carry (b : Bool) (t : State) : State := t.flags (fun p => { p with c := b })
    let ea := (s.target i.operand).ea
    let next : State := { s with cpu := { s.cpu with pc := s.cpu.pc + 1, cycles := s.cpu.cycles + 2 } }
    let shifts (result : Byte → Byte) (out : Byte → Bool) : Prop :=
      (operandMode i.operand = .acc →
        exec i s = .next (zn (result s.cpu.a) ((carry (out s.cpu.a) next).setA (result s.cpu.a)))) ∧
      (operandMode i.operand ≠ .acc → s.operandReadable i.operand = true → ∃ m t, s.Reads i m t ∧
        (t.writable ea (result m) = true → ∃ u, memWrite ea (result m) (carry (out m) t) = .ok u ∧
          exec i s = .next (zn (result m) u)))
    (i.mnemonic = .asl →
      encodingOf i ∈ [⟨0x0A, .acc, 1, 2, false⟩, ⟨0x06, .zp, 2, 5, false⟩, ⟨0x16, .zpx, 2, 6, false⟩,
        ⟨0x0E, .abs, 3, 6, false⟩, ⟨0x1E, .abx, 3, 7, false⟩] ∧
      shifts (fun m => BitVec.ofNat 8 (2 * m.toNat)) (fun m => decide (128 ≤ m.toNat))) ∧
    (i.mnemonic = .lsr →
      encodingOf i ∈ [⟨0x4A, .acc, 1, 2, false⟩, ⟨0x46, .zp, 2, 5, false⟩, ⟨0x56, .zpx, 2, 6, false⟩,
        ⟨0x4E, .abs, 3, 6, false⟩, ⟨0x5E, .abx, 3, 7, false⟩] ∧
      shifts (fun m => BitVec.ofNat 8 (m.toNat / 2)) (fun m => decide (m.toNat % 2 = 1))) ∧
    (i.mnemonic = .rol →
      encodingOf i ∈ [⟨0x2A, .acc, 1, 2, false⟩, ⟨0x26, .zp, 2, 5, false⟩, ⟨0x36, .zpx, 2, 6, false⟩,
        ⟨0x2E, .abs, 3, 6, false⟩, ⟨0x3E, .abx, 3, 7, false⟩] ∧
      shifts (fun m => BitVec.ofNat 8 (2 * m.toNat + c)) (fun m => decide (128 ≤ m.toNat))) ∧
    (i.mnemonic = .ror →
      encodingOf i ∈ [⟨0x6A, .acc, 1, 2, false⟩, ⟨0x66, .zp, 2, 5, false⟩, ⟨0x76, .zpx, 2, 6, false⟩,
        ⟨0x6E, .abs, 3, 6, false⟩, ⟨0x7E, .abx, 3, 7, false⟩] ∧
      shifts (fun m => BitVec.ofNat 8 (m.toNat / 2 + 128 * c)) (fun m => decide (m.toNat % 2 = 1)))

/-! ## Control flow -/

/-- JMP in both forms, JSR and RTS. The pointer of `JMP (ind)` is read through the bus, its second byte from the same page; JSR
pushes the address of its last byte, high byte first, and RTS adds the one back (R152, R280, R281, R282). -/
def Obligations.JumpResults : Prop :=
  ∀ (s : State) (a : Word),
    let at' (t : State) (pc : Word) (cycles : Nat) : State :=
      { t with cpu := { t.cpu with pc := pc, cycles := t.cpu.cycles + cycles } }
    let last : Word := s.cpu.pc + 2
    let second : Word := wordOf (hiByte a) (loByte a + 1)
    (encodingOf (.jmpAbs a) = ⟨0x4C, .abs, 3, 3, false⟩ ∧ exec (.jmpAbs a) s = .next (at' s a 3)) ∧
    (encodingOf (.jmpInd a) = ⟨0x6C, .ind, 3, 5, false⟩ ∧
      (readable a = true → readable second = true → ∃ l h t u, memRead a s = .ok (l, t) ∧
        memRead second t = .ok (h, u) ∧ exec (.jmpInd a) s = .next (at' u (wordOf h l) 5))) ∧
    (encodingOf (.jsrAbs a) = ⟨0x20, .abs, 3, 6, false⟩ ∧
      exec (.jsrAbs a) s = .next (at' ((s.setRam ((s.bus.ram.write (0x100 + s.cpu.s.toNat) (hiByte last)).write
        (0x100 + (s.cpu.s.toNat + 255) % 256) (loByte last))).setS (s.cpu.s - 2)) a 6)) ∧
    (encodingOf .rts = ⟨0x60, .imp, 1, 6, false⟩ ∧
      exec .rts s = .next (at' (s.setS (s.cpu.s + 2))
        (wordOf (s.bus.ram.read (0x100 + (s.cpu.s.toNat + 2) % 256))
          (s.bus.ram.read (0x100 + (s.cpu.s.toNat + 1) % 256)) + 1) 6))

/-- BRK takes the interrupt entry: it pushes the address after its padding byte and the flags with bit 4 set, sets I, and loads
`PC` from `0xFFFE`. RTI restores the flags, then `PC`, with no adjustment (R283, R284). BRK is the spec's decision D17, the
vector its decision D39, what RTI does with bits 4 and 5 and `P.B` its decision D2. -/
def Obligations.InterruptInstructionResults : Prop :=
  ∀ s : State,
    let after : Word := s.cpu.pc + 2
    let sp : Nat := s.cpu.s.toNat
    let rom (a : Word) : Byte := s.cart.image.prgRom.read (s.cart.prgOffset a)
    let stack (k : Nat) : Byte := s.bus.ram.read (0x100 + (sp + k) % 256)
    (encodingOf .brk = ⟨0x00, .imp, 2, 7, false⟩ ∧
      exec .brk s = .next
        { s with
          bus := { s.bus with ram := ((s.bus.ram.write (0x100 + sp) (hiByte after)).write
            (0x100 + (sp + 255) % 256) (loByte after)).write (0x100 + (sp + 254) % 256) (s.cpu.p.statusByte true) }
          cpu := { s.cpu with s := s.cpu.s - 3, p := { s.cpu.p with i := true }, cycles := s.cpu.cycles + 7,
                              pc := wordOf (rom 0xFFFF) (rom 0xFFFE) } }) ∧
    (encodingOf .rti = ⟨0x40, .imp, 1, 6, false⟩ ∧
      exec .rti s = .next
        { s with cpu := { s.cpu with s := s.cpu.s + 3, p := s.cpu.p.setStatus (stack 1), cycles := s.cpu.cycles + 6,
                                     pc := wordOf (stack 3) (stack 2) } })

/-- What a call saves, the return restores: RTS after JSR goes to the byte after the JSR, RTI after BRK to the byte after its
padding byte, with the stack pointer and (for RTI) the flags as they were (R282, R283, R284, R417). The address that BRK pushes
is the spec's decision D17, that `P.B` stays its decision D2. -/
def Obligations.CallsReturn : Prop :=
  ∀ (s : State) (a : Word), s.Inv →
    (∃ t u, exec (.jsrAbs a) s = .next t ∧ exec .rts t = .next u ∧ t.cpu.pc = a ∧ u.cpu.pc = s.cpu.pc + 3 ∧
      u.cpu.s = s.cpu.s ∧ u.cpu.p = s.cpu.p ∧ u.cpu.cycles = s.cpu.cycles + 12) ∧
    (∃ t u, exec .brk s = .next t ∧ exec .rti t = .next u ∧ t.cpu.p.i = true ∧ u.cpu.pc = s.cpu.pc + 2 ∧
      u.cpu.s = s.cpu.s ∧ u.cpu.p = s.cpu.p ∧ u.cpu.cycles = s.cpu.cycles + 13)

/-- The eight branches: encodings, the condition of each, and the branch law: not taken two cycles, taken three, taken to a page
other than that of the next instruction four; nothing else changes (R285 to R293). -/
def Obligations.BranchResults : Prop :=
  ∀ (s : State) (d : Byte),
    let next : Word := s.cpu.pc + 2
    let target : Word := next + d.signExtend 16
    let branches (i : Instr) (op : Byte) (cond : Bool) : Prop :=
      encodingOf i = ⟨op, .rel, 2, 2, false⟩ ∧
      exec i s = .next { s with cpu := { s.cpu with
        pc := if cond then target else next,
        cycles := s.cpu.cycles + (if cond then (if target.toNat / 256 = next.toNat / 256 then 3 else 4) else 2) } }
    branches (.bcc d) 0x90 (!s.cpu.p.c) ∧ branches (.bcs d) 0xB0 s.cpu.p.c ∧
    branches (.beq d) 0xF0 s.cpu.p.z ∧ branches (.bne d) 0xD0 (!s.cpu.p.z) ∧
    branches (.bmi d) 0x30 s.cpu.p.n ∧ branches (.bpl d) 0x10 (!s.cpu.p.n) ∧
    branches (.bvc d) 0x50 (!s.cpu.p.v) ∧ branches (.bvs d) 0x70 s.cpu.p.v

/-! ## Flags and NOP -/

/-- The seven flag instructions write their flag and nothing else. NOP, and the 27 unofficial NOPs where `UNOFFICIAL_EXTRAS` is
true, change only `PC` and `cycles` (R310 to R317, R338). That the 27 make no access to their address is the spec's decision
D38, that they are open its decision D6 (log 3). -/
def Obligations.FlagAndNopResults : Prop :=
  ∀ (s : State) (i : Instr),
    let sets (j : Instr) (op : Byte) (f : Flags → Flags) : Prop :=
      encodingOf j = ⟨op, .imp, 1, 2, false⟩ ∧ exec j s = .next { s with cpu := { s.cpu with
        pc := s.cpu.pc + 1, cycles := s.cpu.cycles + 2, p := f s.cpu.p } }
    sets .clc 0x18 (fun p => { p with c := false }) ∧ sets .sec 0x38 (fun p => { p with c := true }) ∧
    sets .cli 0x58 (fun p => { p with i := false }) ∧ sets .sei 0x78 (fun p => { p with i := true }) ∧
    sets .clv 0xB8 (fun p => { p with v := false }) ∧ sets .cld 0xD8 (fun p => { p with d := false }) ∧
    sets .sed 0xF8 (fun p => { p with d := true }) ∧ sets .nop 0xEA (fun p => p) ∧
    (i.mnemonic = .nop → i.cls = .extra →
      encodingOf i ∈ [⟨0x1A, .imp, 1, 2, false⟩, ⟨0x3A, .imp, 1, 2, false⟩, ⟨0x5A, .imp, 1, 2, false⟩,
        ⟨0x7A, .imp, 1, 2, false⟩, ⟨0xDA, .imp, 1, 2, false⟩, ⟨0xFA, .imp, 1, 2, false⟩, ⟨0x80, .imm, 2, 2, false⟩,
        ⟨0x82, .imm, 2, 2, false⟩, ⟨0x89, .imm, 2, 2, false⟩, ⟨0xC2, .imm, 2, 2, false⟩, ⟨0xE2, .imm, 2, 2, false⟩,
        ⟨0x04, .zp, 2, 3, false⟩, ⟨0x44, .zp, 2, 3, false⟩, ⟨0x64, .zp, 2, 3, false⟩, ⟨0x14, .zpx, 2, 4, false⟩,
        ⟨0x34, .zpx, 2, 4, false⟩, ⟨0x54, .zpx, 2, 4, false⟩, ⟨0x74, .zpx, 2, 4, false⟩, ⟨0xD4, .zpx, 2, 4, false⟩,
        ⟨0xF4, .zpx, 2, 4, false⟩, ⟨0x0C, .abs, 3, 4, false⟩, ⟨0x1C, .abx, 3, 4, true⟩, ⟨0x3C, .abx, 3, 4, true⟩,
        ⟨0x5C, .abx, 3, 4, true⟩, ⟨0x7C, .abx, 3, 4, true⟩, ⟨0xDC, .abx, 3, 4, true⟩, ⟨0xFC, .abx, 3, 4, true⟩] ∧
      (s.unofficialExtras = true → exec i s = .next (s.advanced i)))

/-! ## Unofficial instructions -/

/-- DCP, ISC, SLO, RLA, SRE and RRA: encodings; where their memory can be read and written they read once, write the modified
byte once, and combine it with A: compare, subtract, OR, AND, EOR, add with the carry shifted out (R322 to R327). -/
def Obligations.CombinedResults : Prop :=
  ∀ (i : Instr) (s : State),
    let ea := (s.target i.operand).ea
    let a := s.cpu.a
    let c := s.cpu.p.c
    let carry (b : Bool) (t : State) : State := t.flags (fun p => { p with c := b })
    let logic (v : Byte) (t : State) : State :=
      (t.setA v).flags (fun p => { p with z := decide (v = 0), n := v.getLsbD 7 })
    let modifies (r : Byte → Byte) (out : Byte → Bool) (f : Byte → State → State) : Prop :=
      s.operandReadable i.operand = true → ∃ m t, s.Reads i m t ∧
        (t.writable ea (r m) = true → ∃ u, memWrite ea (r m) (carry (out m) t) = .ok u ∧
          exec i s = .next (f (r m) u))
    let pattern (zp zpx abs abx aby izx izy : Byte) : Prop :=
      encodingOf i ∈ [⟨zp, .zp, 2, 5, false⟩, ⟨zpx, .zpx, 2, 6, false⟩, ⟨abs, .abs, 3, 6, false⟩,
        ⟨abx, .abx, 3, 7, false⟩, ⟨aby, .aby, 3, 7, false⟩, ⟨izx, .izx, 2, 8, false⟩, ⟨izy, .izy, 2, 8, false⟩]
    (i.mnemonic = .dcp → pattern 0xC7 0xD7 0xCF 0xDF 0xDB 0xC3 0xD3 ∧
      modifies (fun m => m - 1) (fun _ => c) (fun r t => t.flags (fun p =>
        { p with c := decide (r.toNat ≤ a.toNat), z := decide (a = r), n := (a - r).getLsbD 7 }))) ∧
    (i.mnemonic = .isc → pattern 0xE7 0xF7 0xEF 0xFF 0xFB 0xE3 0xF3 ∧
      modifies (fun m => m + 1) (fun _ => c) (fun r t => t.addWithCarry (r ^^^ 0xFF))) ∧
    (i.mnemonic = .slo → pattern 0x07 0x17 0x0F 0x1F 0x1B 0x03 0x13 ∧
      modifies (fun m => m <<< 1) (fun m => m.getLsbD 7) (fun r t => logic (a ||| r) t)) ∧
    (i.mnemonic = .rla → pattern 0x27 0x37 0x2F 0x3F 0x3B 0x23 0x33 ∧
      modifies (fun m => BitVec.ofNat 8 (2 * m.toNat + c.toNat)) (fun m => m.getLsbD 7)
        (fun r t => logic (a &&& r) t)) ∧
    (i.mnemonic = .sre → pattern 0x47 0x57 0x4F 0x5F 0x5B 0x43 0x53 ∧
      modifies (fun m => m >>> 1) (fun m => m.getLsbD 0) (fun r t => logic (a ^^^ r) t)) ∧
    (i.mnemonic = .rra → pattern 0x67 0x77 0x6F 0x7F 0x7B 0x63 0x73 ∧
      modifies (fun m => BitVec.ofNat 8 (m.toNat / 2 + 128 * c.toNat)) (fun m => m.getLsbD 0)
        (fun r t => t.addWithCarry r))

/-- ANC, ALR, ARR, SBX and ANE from every state, ANE whatever the free constant `ANE_MAGIC` is (the spec's decision D7, log 4);
LAS from every state in which its operand can be read (R328 to R332, R337). The operations are the spec's decision D5; that ARR
is binary is its decision D4. -/
def Obligations.ImmediateAndLasResults : Prop :=
  ∀ (s : State) (m : Byte) (w : Word),
    let next : State := { s with cpu := { s.cpu with pc := s.cpu.pc + 2, cycles := s.cpu.cycles + 2 } }
    let zn (v : Byte) (t : State) : State := t.flags (fun p => { p with z := decide (v = 0), n := v.getLsbD 7 })
    let both := s.cpu.a &&& m
    let anc : State := (zn both (next.setA both)).flags (fun p => { p with c := both.getLsbD 7 })
    let rotated : Byte := BitVec.ofNat 8 (both.toNat / 2 + 128 * s.cpu.p.c.toNat)
    let ax := s.cpu.a &&& s.cpu.x
    (encodingOf (.ancImm0B m) = ⟨0x0B, .imm, 2, 2, false⟩ ∧ exec (.ancImm0B m) s = .next anc) ∧
    (encodingOf (.ancImm2B m) = ⟨0x2B, .imm, 2, 2, false⟩ ∧ exec (.ancImm2B m) s = .next anc) ∧
    (encodingOf (.alrImm m) = ⟨0x4B, .imm, 2, 2, false⟩ ∧
      exec (.alrImm m) s = .next ((zn (both >>> 1) (next.setA (both >>> 1))).flags
        (fun p => { p with c := both.getLsbD 0 }))) ∧
    (encodingOf (.arrImm m) = ⟨0x6B, .imm, 2, 2, false⟩ ∧
      exec (.arrImm m) s = .next ((zn rotated (next.setA rotated)).flags
        (fun p => { p with c := rotated.getLsbD 6, v := rotated.getLsbD 6 != rotated.getLsbD 5 }))) ∧
    (encodingOf (.sbxImm m) = ⟨0xCB, .imm, 2, 2, false⟩ ∧
      exec (.sbxImm m) s = .next ((zn (ax - m) (next.setX (ax - m))).flags
        (fun p => { p with c := decide (m.toNat ≤ ax.toNat) }))) ∧
    (encodingOf (.aneImm m) = ⟨0x8B, .imm, 2, 2, false⟩ ∧
      let v := (s.cpu.a ||| Config.aneMagic) &&& s.cpu.x &&& m
      exec (.aneImm m) s = .next (zn v (next.setA v))) ∧
    (encodingOf (.lasAby w) = ⟨0xBB, .aby, 3, 4, true⟩ ∧
      (readable (s.target (.aby w)).ea = true → ∃ b t, s.Reads (.lasAby w) b t ∧
        let v := b &&& s.cpu.s
        exec (.lasAby w) s = .next (zn v (((t.setA v).setX v).setS v))))

/-- SHA, SHX, SHY and TAS: the byte stored is the register AND the high byte of the base plus one; when a page is crossed it
also replaces the high byte of the address (R333 to R336, R341). The stored value and the replaced byte are the spec's decision
D8. -/
def Obligations.HighByteStoreResults : Prop :=
  ∀ (i : Instr) (s : State),
    let r := s.target i.operand
    let value (reg : Byte) : Byte := reg &&& BitVec.ofNat 8 (r.base.toNat / 256 + 1)
    let address (reg : Byte) : Word :=
      if r.ea.toNat / 256 = r.base.toNat / 256 then r.ea
      else BitVec.ofNat 16 (256 * (value reg).toNat + r.ea.toNat % 256)
    let stores (reg : Byte) (t : State) : Prop := s.writable (address reg) (value reg) = true →
      ∃ u, memWrite (address reg) (value reg) t = .ok u ∧ exec i s = .next u
    let ax := s.cpu.a &&& s.cpu.x
    (i.mnemonic = .sha → encodingOf i ∈ [⟨0x9F, .aby, 3, 5, false⟩, ⟨0x93, .izy, 2, 6, false⟩] ∧
      stores ax (s.advanced i)) ∧
    (i.mnemonic = .shx → encodingOf i = ⟨0x9E, .aby, 3, 5, false⟩ ∧ stores s.cpu.x (s.advanced i)) ∧
    (i.mnemonic = .shy → encodingOf i = ⟨0x9C, .abx, 3, 5, false⟩ ∧ stores s.cpu.y (s.advanced i)) ∧
    (i.mnemonic = .tas → encodingOf i = ⟨0x9B, .aby, 3, 5, false⟩ ∧ stores ax ((s.advanced i).setS ax))

/-! ## Frames -/

/-- Which registers an instruction can change. A, X, Y and S are unchanged but by the instructions that the rules name; no
instruction changes a pending IRQ, the `UNOFFICIAL_EXTRAS` parameter, the cartridge file's data, the raster position or a
picture, or raises `fault` and goes on; `idle` changes only by a store to `0x4014`, a pending NMI and its delay only by a store
(R21 to R24, R29, R30; the *Operation* and *Flags* lines of spec/40 to spec/46). -/
def Obligations.RegisterFrame : Prop :=
  ∀ (i : Instr) (s t : State), exec i s = .next t →
    (i.mnemonic ∉ [.lda, .txa, .tya, .pla, .and, .ora, .eor, .adc, .sbc, .lax, .isc, .slo, .rla, .sre, .rra, .anc,
        .alr, .arr, .ane, .las] → operandMode i.operand ≠ .acc → t.cpu.a = s.cpu.a) ∧
    (i.mnemonic ∉ [.ldx, .tax, .tsx, .inx, .dex, .lax, .sbx, .las] → t.cpu.x = s.cpu.x) ∧
    (i.mnemonic ∉ [.ldy, .tay, .iny, .dey] → t.cpu.y = s.cpu.y) ∧
    (i.mnemonic ∉ [.txs, .pha, .php, .pla, .plp, .jsr, .rts, .rti, .brk, .las, .tas] → t.cpu.s = s.cpu.s) ∧
    t.cpu.irqPending = s.cpu.irqPending ∧ t.unofficialExtras = s.unofficialExtras ∧ t.cart.image = s.cart.image ∧
    t.lastFrame = s.lastFrame ∧ t.fault = s.fault ∧ t.ppu.scanline = s.ppu.scanline ∧ t.ppu.cycle = s.ppu.cycle ∧
    t.ppu.framebuffer = s.ppu.framebuffer ∧
    ((∀ ea, ¬ s.StoresTo i ea) → t.cpu.idle = s.cpu.idle ∧ t.cpu.nmiPending = s.cpu.nmiPending ∧
      t.cpu.nmiDelay = s.cpu.nmiDelay) ∧
    (∀ ea, s.StoresTo i ea → ea ≠ 0x4014 → t.cpu.idle = s.cpu.idle)

/-- Which flags an instruction can change: each flag only by the instructions whose rules list it, and `P.B` by none (R26, R200,
R453). That nothing writes `P.B` is the spec's decision D2. -/
def Obligations.FlagFrame : Prop :=
  ∀ (i : Instr) (s t : State), exec i s = .next t →
    t.cpu.p.b = s.cpu.p.b ∧
    (i.mnemonic ∉ [.cld, .sed, .plp, .rti] → t.cpu.p.d = s.cpu.p.d) ∧
    (i.mnemonic ∉ [.cli, .sei, .plp, .rti, .brk] → t.cpu.p.i = s.cpu.p.i) ∧
    (i.mnemonic ∉ [.adc, .sbc, .bit, .clv, .plp, .rti, .isc, .rra, .arr] → t.cpu.p.v = s.cpu.p.v) ∧
    (i.mnemonic ∉ [.adc, .sbc, .cmp, .cpx, .cpy, .asl, .lsr, .rol, .ror, .clc, .sec, .plp, .rti, .dcp, .isc, .slo,
        .rla, .sre, .rra, .anc, .alr, .arr, .sbx] → t.cpu.p.c = s.cpu.p.c) ∧
    (i.mnemonic ∈ [.sta, .stx, .sty, .sax, .sha, .shx, .shy, .tas, .txs, .pha, .php, .jmp, .jsr, .rts, .brk, .bcc, .bcs,
        .beq, .bne, .bmi, .bpl, .bvc, .bvs, .clc, .sec, .cli, .sei, .clv, .cld, .sed, .nop] →
      t.cpu.p.z = s.cpu.p.z ∧ t.cpu.p.n = s.cpu.p.n)

/-- An instruction that stores nothing changes no byte of storage, no register of the cartridge, no PPU memory and no latched
button: whatever it reads, RAM, PRG-RAM, PRG-ROM, CHR, VRAM, palette and OAM stay as they were (R97; the *Operation* and *Flags*
lines of the rules of spec/40 to spec/46). That a read form makes no other access is the spec's decision D9, that reading
`$2004` or a write-only PPU register changes nothing its decisions D24 and D20. -/
def Obligations.ReadFormsStoreNothing : Prop :=
  ∀ (i : Instr) (s t : State), exec i s = .next t →
    i.mnemonic ∉ [.sta, .stx, .sty, .sax, .sha, .shx, .shy, .tas, .inc, .dec, .dcp, .isc, .slo, .rla, .sre, .rra, .pha,
      .php, .jsr, .brk] →
    (i.mnemonic ∈ [.asl, .lsr, .rol, .ror] → operandMode i.operand = .acc) →
    (∀ a, peek a t = peek a s) ∧ t.bus.ram = s.bus.ram ∧ t.cart = s.cart ∧ t.bus.ctrlButtons = s.bus.ctrlButtons ∧
    t.ppu.vram = s.ppu.vram ∧ t.ppu.palette = s.ppu.palette ∧ t.ppu.oam = s.ppu.oam ∧ t.ppu.oamAddr = s.ppu.oamAddr ∧
    t.ppu.t = s.ppu.t ∧ t.ppu.fineX = s.ppu.fineX ∧ t.ppu.ctrl = s.ppu.ctrl ∧ t.ppu.mask = s.ppu.mask ∧
    t.ppu.lastWrite = s.ppu.lastWrite

/-- What a store leaves unchanged. With the address each form stores to, computed as its rule says: every byte of storage
outside the stored cell reads as before, in the RAM mirrors too; a store at or above `0x8000` writes a mapper register, so only
what is read below `0x8000`, the arrays and the file's data are then as before; a store outside the PPU window and `0x4014`
leaves the PPU's memories alone (R83, R93, R200, R341). The address of SHA, SHX, SHY and TAS is the spec's decision D8. -/
def Obligations.StoreFrame : Prop :=
  ∀ (i : Instr) (s t : State) (ea : Word), exec i s = .next t → s.StoresTo i ea → s.Inv →
    (∀ a, a ≠ ea → sameRamCell a ea = false → (ea < 0x8000 ∨ a < 0x8000) → peek a t = peek a s) ∧
    t.cart.image = s.cart.image ∧ t.cart.expRam = s.cart.expRam ∧
    (¬ (0x2000 ≤ ea ∧ ea < 0x4000) → ea ≠ 0x4014 →
      t.ppu.vram = s.ppu.vram ∧ t.ppu.palette = s.ppu.palette ∧ t.ppu.oam = s.ppu.oam ∧ t.cart.chr = s.cart.chr ∧
      t.cpu.nmiPending = s.cpu.nmiPending) ∧
    (ea < 0x8000 → t.cart.regs = s.cart.regs ∧ t.cart.mirroring = s.cart.mirroring) ∧
    (ea ≠ 0x4014 → t.cpu.idle = s.cpu.idle)

/-- What a push leaves unchanged: PHA and PHP store one byte, JSR two, BRK three, in the stack slots below `S` (R220, R227,
R228, R281, R284); every other byte of storage reads as before, and nothing outside RAM, `S`, `PC`, `cycles` and (BRK) I
changes. What BRK pushes is the spec's decision D17. -/
def Obligations.StackFrame : Prop :=
  ∀ (i : Instr) (s t : State), exec i s = .next t → i.mnemonic ∈ [.pha, .php, .jsr, .brk] → s.Inv →
    let slots : Nat := if i.mnemonic = .brk then 3 else if i.mnemonic = .jsr then 2 else 1
    (∀ a, (∀ k, k < slots → sameRamCell a (BitVec.ofNat 16 (0x100 + (s.cpu.s.toNat + 256 - k) % 256)) = false) →
      peek a t = peek a s) ∧
    t = { s with
      bus := { s.bus with ram := t.bus.ram }
      cpu := { s.cpu with s := s.cpu.s - BitVec.ofNat 8 slots, pc := t.cpu.pc, cycles := t.cpu.cycles,
                          p := if i.mnemonic = .brk then { s.cpu.p with i := true } else s.cpu.p } }

/-- Every instruction but the jumps, branches, returns and BRK leaves `PC` at the next instruction and costs its table's cycles,
plus one where the `+p` flag is set and the indexed address lies in another page than its base (R155, R156 step 6, R157). The
table is the spec's decision D5, that `PC` wraps without fault its decision D9. -/
def Obligations.SequentialPcAndCycles : Prop :=
  ∀ (i : Instr) (s t : State), exec i s = .next t →
    i.mnemonic ∉ [.jmp, .jsr, .rts, .rti, .brk, .bcc, .bcs, .beq, .bne, .bmi, .bpl, .bvc, .bvs] →
    t.cpu.pc.toNat = (s.cpu.pc.toNat + i.size) % 65536 ∧
    t.cpu.cycles = s.cpu.cycles + i.row.cycles +
      (if i.row.pageCross ∧ (s.target i.operand).ea.toNat / 256 ≠ (s.target i.operand).base.toNat / 256 then 1 else 0)

/-! ## The CPU bus -/

/-- When an access succeeds. A read succeeds exactly outside `0x4020`–`0x5FFF` and otherwise raises `InvalidAddress` with the
address; at `0x8000` and up it gives the byte of PRG-ROM in the bank in place and changes nothing; a write succeeds exactly
where `writable` says, and `0x4020`–`0x5FFF` raises `InvalidAddress`. Reads of `0x4000`–`0x401F` but `0x4016` return 0 and do
nothing; writes there but to `0x4014` and `0x4016` are dropped. A read of a write-only PPU register, at any mirror, returns a
free byte and changes nothing but the model's counter of free values (log 5) (R80 to R82, R84, R85, R93, R403, R404, R504, R603,
R604). The dropped writes and the read of `0x4014` are the spec's decision D19, the free byte its decision D20,
`0x4020`–`0x5FFF` its decision D22, what the fault records D33, the reduction of banks D31. -/
def Obligations.BusAccess : Prop :=
  ∀ (s : State) (a : Word) (v : Byte),
    ((∃ b t, memRead a s = .ok (b, t)) ↔ (a < 0x4020 ∨ 0x6000 ≤ a)) ∧
    ((∃ t, memWrite a v s = .ok t) ↔ s.writable a v = true) ∧
    (0x4020 ≤ a → a < 0x6000 →
      memRead a s = .error (.invalidAddress a .read { s with fault := some (.invalidAddress a .read) }) ∧
      memWrite a v s = .error (.invalidAddress a .write { s with fault := some (.invalidAddress a .write) })) ∧
    (0x4000 ≤ a → a < 0x4020 → (a ≠ 0x4016 → memRead a s = .ok (0, s)) ∧
      (a ≠ 0x4014 → a ≠ 0x4016 → memWrite a v s = .ok s)) ∧
    (0x2000 ≤ a → a < 0x4000 → a.toNat % 8 ∈ [0, 1, 3, 5, 6] →
      memRead a s = .ok (Config.ppuWoRead s.draws, { s with draws := s.draws + 1 })) ∧
    (0x8000 ≤ a → memRead a s = .ok (s.cart.image.prgRom.read (s.cart.prgOffset a), s))

/-- What a CPU write does to storage: a byte written to internal RAM is read back at all four mirrors, a byte written to PRG-RAM
where the variant has it, and every other byte of the two is unchanged. A write to `0x8000`–`0xFFFF` changes no byte of any
array, on any variant, and on NROM nothing at all; no other write changes a mapper register or the mirroring (R83, R93, R100,
R603, R606, R610). Which variants have PRG-RAM is the spec's decision D23, that NROM drops the write its decision D31. -/
def Obligations.CpuWriteEffects : Prop :=
  ∀ (s t : State) (a b : Word) (v : Byte), s.Inv → memWrite a v s = .ok t →
    (a < 0x2000 → b < 0x2000 →
      memRead b t = .ok (if b.toNat % 2048 = a.toNat % 2048 then v else s.bus.ram.read (b.toNat % 2048), t)) ∧
    (0x6000 ≤ a → a < 0x8000 → 0x6000 ≤ b → b < 0x8000 →
      memRead b t = .ok (if s.cart.regs.hasPrgRam = false then 0 else if b = a then v
        else s.cart.prgRam.read (b.toNat - 0x6000), t)) ∧
    (0x8000 ≤ a → t.cart.image = s.cart.image ∧ t.cart.chr = s.cart.chr ∧ t.cart.prgRam = s.cart.prgRam ∧
      t.cart.expRam = s.cart.expRam ∧ t.ppu = s.ppu ∧ t.bus = s.bus ∧ t.cpu = s.cpu ∧
      (s.cart.regs = .nrom → t = s)) ∧
    (a < 0x8000 → t.cart.regs = s.cart.regs ∧ t.cart.mirroring = s.cart.mirroring ∧ t.cart.image = s.cart.image)

/-- The controller port: a write with bit 0 set latches the host's eight buttons, and the next eight reads give A, B, Select,
Start, Up, Down, Left, Right in bit 0; a read past the eighth gives a free bit, with bits 7 to 1 clear, and leaves the index as
it is; a write with bit 0 clear changes nothing; nothing else changes by any of them (R91, R92, R705). That the host's buttons
come from a queue, free values where it is empty, is log 6, the counter of the free bit log 5. That a write with bit 0 clear
does nothing, that bits 7 to 1 of a read are 0 and that the ninth bit is free are the spec's decision D21. -/
def Obligations.ControllerShiftsOut : Prop :=
  ∀ (s : State) (v : Byte),
    let latched (b : Buttons) (t : State) : State := { t with bus := { t.bus with ctrlButtons := b, ctrlIndex := 0 } }
    (v.getLsbD 0 = false → memWrite 0x4016 v s = .ok s) ∧
    (∀ (b : Buttons) (rest : List Buttons), v.getLsbD 0 = true → s.buttonInputs = b :: rest →
      memWrite 0x4016 v s = .ok (latched b { s with buttonInputs := rest })) ∧
    (v.getLsbD 0 = true → s.buttonInputs = [] →
      ∃ b, memWrite 0x4016 v s = .ok (latched b { s with draws := s.draws + 1 })) ∧
    (∀ k : Fin 8, s.bus.ctrlIndex = k.val →
      let b := s.bus.ctrlButtons
      memRead 0x4016 s = .ok (
        if [b.btnA, b.btnB, b.select, b.start, b.up, b.down, b.left, b.right][k.val]! then 1 else 0,
        { s with bus := { s.bus with ctrlIndex := k.val + 1 } })) ∧
    (8 ≤ s.bus.ctrlIndex →
      memRead 0x4016 s = .ok (if Config.ctrlTail s.draws then 1 else 0, { s with draws := s.draws + 1 }))

/-- OAM-DMA from a page of internal RAM: after it, OAM holds the page's 256 bytes from `oamAddr` on, wrapping, `oamAddr` is as
before, and the stall is 514 steps when `cycles` is odd and 513 when it is even (R90). That the copy reads the bus, starts at
`oamAddr` and wraps is the spec's decision D34; that `cycles` is sampled at the write is its decision D14. -/
def Obligations.OamDmaCopies : Prop :=
  ∀ (s : State) (page : Byte), s.Inv → page < 0x20 → ∃ t, memWrite 0x4014 page s = .ok t ∧
    (∀ k : Nat, k < 256 → t.ppu.oam.read ((s.ppu.oamAddr.toNat + k) % 256) =
      s.bus.ram.read ((256 * page.toNat + k) % 2048)) ∧
    t.ppu.oamAddr = s.ppu.oamAddr ∧ t.cpu.idle = s.cpu.idle + (if s.cpu.cycles % 2 = 1 then 514 else 513) ∧
    t.cpu.cycles = s.cpu.cycles ∧ t.bus = s.bus ∧ t.cart = s.cart ∧ t.ppu.lastWrite = s.ppu.lastWrite

/-! ## Interrupts -/

/-- The interrupt lines. An IRQ requested while I is set is lost (R410); an NMI is always taken and restarts its delay of
`NMI_DELAY` = 1 polls (R411; the value is log 10); `NmiChange` requests one NMI on each rise of `vblank and ctrlNmiEnable`
(R550; the edge form is the spec's decision D26). That a masked request is dropped is the spec's decision D10, the restart and
the counting in polls its decision D11. -/
def Obligations.InterruptLines : Prop :=
  ∀ s : State,
    (s.cpu.p.i = true → s.triggerIrq = s) ∧
    (s.cpu.p.i = false → s.triggerIrq = { s with cpu := { s.cpu with irqPending := true } }) ∧
    s.triggerNmi = { s with cpu := { s.cpu with nmiPending := true, nmiDelay := 1 } } ∧
    (let new := s.ppu.vblank && s.ppu.ctrl.nmiEnable
     let t : State := if new = true ∧ s.ppu.nmiLine = false then s.triggerNmi else s
     s.nmiChange = { t with ppu := { t.ppu with nmiLine := new } })

/-- Interrupt service from every state: `PC` is pushed high byte first, then the flags with bit 4 clear; I is set; `PC` is the
word at the vector, read from PRG-ROM through the bank in place; seven cycles are charged; it cannot fault (R413, R403). The
sequence and the cost are the spec's decision D12, the vectors its decision D39. -/
def Obligations.ServiceEntry : Prop :=
  ∀ (s : State) (vector : Word), (vector = 0xFFFA ∨ vector = 0xFFFE) →
    let sp : Nat := s.cpu.s.toNat
    let rom (a : Word) : Byte := s.cart.image.prgRom.read (s.cart.prgOffset a)
    service vector s = .ok
      { s with
        bus := { s.bus with ram := ((s.bus.ram.write (0x100 + sp) (hiByte s.cpu.pc)).write
          (0x100 + (sp + 255) % 256) (loByte s.cpu.pc)).write (0x100 + (sp + 254) % 256) (s.cpu.p.statusByte false) }
        cpu := { s.cpu with s := s.cpu.s - 3, p := { s.cpu.p with i := true }, cycles := s.cpu.cycles + 7,
                            pc := wordOf (rom (vector + 1)) (rom vector) } }

/-- The poll at the head of every step: IRQ first, and only if I is clear, then NMI, unless its delay still runs; a pending IRQ
is cleared either way, an NMI only when serviced; with both, both are serviced (R412, R415). That a pending IRQ is cleared at
every poll, serviced or not, is the spec's decision D10; that an NMI is cleared only when serviced, and that its delay is
counted in polls, is its decision D11: its readings of an open sentence. -/
def Obligations.PollOrder : Prop :=
  ∀ s : State,
    let clearIrq (t : State) : State := { t with cpu := { t.cpu with irqPending := false } }
    let clearNmi (t : State) : State := { t with cpu := { t.cpu with nmiPending := false } }
    (s.cpu.irqPending = false ∨ s.cpu.p.i = true → s.cpu.nmiPending = false →
      interruptPoll s = .ok (clearIrq s)) ∧
    (s.cpu.irqPending = false ∨ s.cpu.p.i = true → s.cpu.nmiPending = true → 0 < s.cpu.nmiDelay →
      interruptPoll s = .ok (clearIrq { s with cpu := { s.cpu with nmiDelay := s.cpu.nmiDelay - 1 } })) ∧
    (s.cpu.irqPending = false ∨ s.cpu.p.i = true → s.cpu.nmiPending = true → s.cpu.nmiDelay = 0 →
      ∃ t, service 0xFFFA (clearIrq s) = .ok t ∧ interruptPoll s = .ok (clearNmi t)) ∧
    (s.cpu.irqPending = true → s.cpu.p.i = false →
      ∃ t, service 0xFFFE s = .ok t ∧
        (s.cpu.nmiPending = false → interruptPoll s = .ok (clearIrq t)) ∧
        (s.cpu.nmiPending = true → 0 < s.cpu.nmiDelay →
          interruptPoll s = .ok (clearIrq { t with cpu := { t.cpu with nmiDelay := s.cpu.nmiDelay - 1 } })) ∧
        (s.cpu.nmiPending = true → s.cpu.nmiDelay = 0 →
          ∃ u, service 0xFFFA (clearIrq t) = .ok u ∧ interruptPoll s = .ok (clearNmi u)))

/-! ## PPU registers -/

/-- A write to `$2000` or `$2001` at any mirror sets every decoded flag from its bit, and `t[11:10]` from the nametable bits;
`v`, the other bits of `t` and the other register's flags stay; `lastWrite` holds the byte (R84, R503, R507, R508). The bit
layouts and `lastWrite` are the spec's decision D24; that setting bit 7 while `vblank` is set requests an NMI, if the line was
low, is its decision D26. The moves into `t` are its decision D25. -/
def Obligations.ControlAndMaskWrites : Prop :=
  ∀ (s : State) (k : Nat) (d : Byte), k < 1024 →
    (∃ t, memWrite (BitVec.ofNat 16 (0x2000 + 8 * k)) d s = .ok t ∧
      t.ppu.ctrl = { nametable := d.extractLsb' 0 2, increment32 := d.getLsbD 2, spriteTable := d.getLsbD 3,
                     bgTable := d.getLsbD 4, sprite16 := d.getLsbD 5, masterSlave := d.getLsbD 6,
                     nmiEnable := d.getLsbD 7 } ∧
      (∀ j, t.ppu.t.getLsbD j = if j = 10 then d.getLsbD 0 else if j = 11 then d.getLsbD 1 else s.ppu.t.getLsbD j) ∧
      t.ppu.lastWrite = d ∧ t.ppu.v = s.ppu.v ∧ t.ppu.mask = s.ppu.mask ∧
      (t.cpu.nmiPending = true ↔ s.cpu.nmiPending = true ∨
        (s.ppu.vblank = true ∧ d.getLsbD 7 = true ∧ s.ppu.nmiLine = false))) ∧
    (∃ t, memWrite (BitVec.ofNat 16 (0x2001 + 8 * k)) d s = .ok t ∧
      t.ppu = { s.ppu with
        lastWrite := d
        mask := { greyscale := d.getLsbD 0, showBgLeft := d.getLsbD 1, showSpritesLeft := d.getLsbD 2,
                  showBg := d.getLsbD 3, showSprites := d.getLsbD 4, emphasis := d.extractLsb' 5 3 } } ∧
      t.cpu = s.cpu)

/-- The two half-writes through the shared toggle. From `w` = 0: writing `$2005` twice, at any mirrors, sets coarse X, fine X,
coarse Y and fine Y of `t` and `fineX`, and leaves its nametable bits and `v` alone; writing `$2006` twice sets `t` and `v` to
the 14-bit address; both leave `w` at 0, `lastWrite` at the second byte, and nothing else changed (R84, R503, R506, R514, R515;
the bits are the spec's decision D25). What sets `lastWrite` is the spec's decision D24. -/
def Obligations.ScrollAndAddressPairs : Prop :=
  ∀ (s : State) (j k : Nat) (x y : Byte), s.ppu.w = false → j < 1024 → k < 1024 →
    (∃ t, memWrite (BitVec.ofNat 16 (0x2005 + 8 * j)) x s = .ok t ∧ t.ppu.w = true ∧ t.ppu.v = s.ppu.v ∧
      t.ppu.lastWrite = x ∧ ∃ u, memWrite (BitVec.ofNat 16 (0x2005 + 8 * k)) y t = .ok u ∧
      u = { s with ppu := { s.ppu with t := u.ppu.t, fineX := u.ppu.fineX, lastWrite := y } } ∧
      u.ppu.fineX.toNat = x.toNat % 8 ∧ u.ppu.t.toNat % 32 = x.toNat / 8 ∧
      u.ppu.t.toNat / 32 % 32 = y.toNat / 8 ∧ u.ppu.t.toNat / 1024 % 4 = s.ppu.t.toNat / 1024 % 4 ∧
      u.ppu.t.toNat / 4096 = y.toNat % 8) ∧
    (∃ t, memWrite (BitVec.ofNat 16 (0x2006 + 8 * j)) x s = .ok t ∧ t.ppu.w = true ∧ t.ppu.v = s.ppu.v ∧
      t.ppu.lastWrite = x ∧ ∃ u, memWrite (BitVec.ofNat 16 (0x2006 + 8 * k)) y t = .ok u ∧
      u = { s with ppu := { s.ppu with t := u.ppu.t, v := u.ppu.t, lastWrite := y } } ∧
      u.ppu.t.toNat = 256 * (x.toNat % 64) + y.toNat)

/-- A read of `$2002` at any mirror returns vblank, sprite-zero hit, overflow and the low five bits of `lastWrite`, clears
`vblank` and `w` and lowers the NMI line, and leaves everything else, the other two flags and any pending NMI among it (R84,
R509). The positions of bits 7, 6 and 5 and what sets `lastWrite` are the spec's decision D24, the NMI line its decision D26. -/
def Obligations.StatusRead : Prop :=
  ∀ (s : State) (k : Nat), k < 1024 →
    ∃ b, memRead (BitVec.ofNat 16 (0x2002 + 8 * k)) s =
        .ok (b, { s with ppu := { s.ppu with vblank := false, nmiLine := false, w := false } }) ∧
      b.toNat = 128 * s.ppu.vblank.toNat + 64 * s.ppu.spriteZeroHit.toNat + 32 * s.ppu.spriteOverflow.toNat +
        s.ppu.lastWrite.toNat % 32

/-- The data port `$2007`, at any mirror, and the PPU bus under it. A PPU read is reduced to 14 bits and gives the CHR byte of
the bank in place (but for Mapper185, see Mapper185Lockout), the VRAM byte of the nametable, or the palette entry (R105, R603).
A read below the palette returns the buffer and refills it; a palette read returns the entry at once and refills the buffer from
the nametable under it. A write stores through the PPU bus. Each then adds 1 or 32 to `v` modulo 32768. A write to CHR-ROM
raises `ReadOnlyMemory` and does not increment (R84, R402, R516, R517, R518, R604); the address it records is log 23, that a
read raises no fault log 22. The refill under the palette and the increment on a read are the spec's decision D36, the reduction
to 14 bits its decision D41, the reduction of banks and the mirroring tables D31, `lastWrite` D24, and that a fault records the
address and drops the increment D33. -/
def Obligations.DataPort : Prop :=
  ∀ (s : State) (d : Byte) (addr k : Nat), k < 1024 →
    let port : Word := BitVec.ofNat 16 (0x2007 + 8 * k)
    let b := addr % 0x4000
    let a := s.ppu.v.toNat % 0x4000
    let next : BitVec 15 := BitVec.ofNat 15 (s.ppu.v.toNat + (if s.ppu.ctrl.increment32 then 32 else 1))
    (b < 0x2000 → (∀ st, s.cart.regs ≠ .mapper185 st) → s.ppuRead addr = s.cart.chr.read (s.cart.chrOffset b)) ∧
    (0x2000 ≤ b → b < 0x3F00 → s.ppuRead addr = s.ppu.vram.read (s.cart.vramIndex b)) ∧
    (0x3F00 ≤ b → s.ppuRead addr = s.ppu.palette.read (paletteIndex b)) ∧
    (a < 0x3F00 → memRead port s = .ok (s.ppu.readBuffer,
      { s with ppu := { s.ppu with readBuffer := s.ppuRead a, v := next } })) ∧
    (0x3F00 ≤ a → memRead port s = .ok (s.ppuRead a,
      { s with ppu := { s.ppu with readBuffer := s.ppuRead (a - 0x1000), v := next } })) ∧
    (a < 0x2000 → s.cart.image.usesChrRam = true → memWrite port d s = .ok
      { s with ppu := { s.ppu with lastWrite := d, v := next },
               cart := { s.cart with chr := s.cart.chr.write (s.cart.chrOffset a) d } }) ∧
    (a < 0x2000 → s.cart.image.usesChrRam = false → ∃ t, memWrite port d s =
      .error (.readOnlyMemory (BitVec.ofNat 16 a) t) ∧ t.ppu = { s.ppu with lastWrite := d } ∧ t.cart = s.cart) ∧
    (0x2000 ≤ a → a < 0x3F00 → memWrite port d s = .ok
      { s with ppu := { s.ppu with lastWrite := d, v := next, vram := s.ppu.vram.write (s.cart.vramIndex a) d } }) ∧
    (0x3F00 ≤ a → memWrite port d s = .ok
      { s with ppu := { s.ppu with lastWrite := d, v := next, palette := s.ppu.palette.write (paletteIndex a) d } })

/-- OAM and palette hold what was written. `$2003` sets the OAM address, `$2004` writes there and advances, and reads there
without advancing, each at any mirror. Palette indexes 16, 20, 24 and 28 alias 0, 4, 8 and 12, at every one of the eight copies
of the 32 bytes; no other two indexes alias (R84, R106, R107, R511, R512, R513). The mechanics of `$2003` and `$2004`, read
without and write with advance, are the spec's decision D24. -/
def Obligations.OamAndPaletteHoldWrites : Prop :=
  ∀ s : State, s.Inv →
    (∀ (addr d : Byte) (j k l m : Nat), j < 1024 → k < 1024 → l < 1024 → m < 1024 → ∃ t u w,
      memWrite (BitVec.ofNat 16 (0x2003 + 8 * j)) addr s = .ok t ∧
      memWrite (BitVec.ofNat 16 (0x2004 + 8 * k)) d t = .ok u ∧ u.ppu.oamAddr = addr + 1 ∧
      memWrite (BitVec.ofNat 16 (0x2003 + 8 * l)) addr u = .ok w ∧
      memRead (BitVec.ofNat 16 (0x2004 + 8 * m)) w = .ok (d, w) ∧
      (∀ k, k ≠ addr.toNat → w.ppu.oam.read k = s.ppu.oam.read k) ∧ w.ppu.v = s.ppu.v ∧ w.cpu = s.cpu) ∧
    (∀ (i j k l : Nat) (v : Byte), i < 32 → j < 32 → k < 8 → l < 8 →
      ∃ t, s.ppuWrite (0x3F00 + 32 * k + i) v = .ok t ∧
        t.ppuRead (0x3F00 + 32 * l + j) =
          if (if i % 4 = 0 then i % 16 else i) = (if j % 4 = 0 then j % 16 else j) then v
          else s.ppuRead (0x3F00 + 32 * l + j))

/-! ## PPU timing -/

/-- The raster counter: each step advances the position by one in a frame of 262 × 341, but with rendering enabled on an odd
frame position (261, 339) goes straight to (0, 0); arriving at (0, 0) flips `f` and hands over the frame buffer (to `lastFrame`,
log 13), no other step does (R521, R522, R523). So `GoUntilFrame` returns within 29781 steps, with `f` flipped, unless a fault
occurs (R700, R702, R703). Which position is skipped is the spec's decision D26, the form of the draw callback its decision D35,
that PPU and mapper steps alternate its decision D37. -/
def Obligations.RasterAdvance : Prop :=
  (∀ s : State, s.ppu.scanline ≤ 261 → s.ppu.cycle ≤ 340 →
    let t := s.ppuStep
    let position (u : Ppu) : Nat := 341 * u.scanline + u.cycle
    let skips : Bool := (s.ppu.mask.showBg || s.ppu.mask.showSprites) && s.ppu.f && decide (position s.ppu = 89340)
    t.ppu.scanline ≤ 261 ∧ t.ppu.cycle ≤ 340 ∧
    position t.ppu = (if skips then 0 else (position s.ppu + 1) % 89342) ∧
    (position t.ppu = 0 → t.ppu.f = !s.ppu.f ∧ t.lastFrame = some s.ppu.framebuffer) ∧
    (position t.ppu ≠ 0 → t.ppu.f = s.ppu.f ∧ t.lastFrame = s.lastFrame)) ∧
  (∀ s : State, s.Inv →
    (∃ f, goUntilFrame s = .fault f) ∨
    (∃ t n, goUntilFrame s = .next t ∧ t.ppu.f = !s.ppu.f ∧ n ≤ 29781 ∧ Host.Core.run Sys2Proof.core n s = .next t))

/-- `vblank` is set on arriving at (241, 1) and cleared at (261, 1), where the two sprite flags are cleared too, whether or not
rendering is on; no other step of the PPU changes it. With `nmiLine` in agreement, an NMI is requested exactly on the set, if
enabled (R520, R550, R551). The edge form of the NMI, and that only the VBlank logic runs with rendering off, are the spec's
decision D26; the delay that a request sets is its decision D11 (its value: log 10). -/
def Obligations.VblankTiming : Prop :=
  ∀ s : State, s.Inv →
    let t := s.ppuStep
    let at' (line cyc : Nat) : Prop := t.ppu.scanline = line ∧ t.ppu.cycle = cyc
    (at' 241 1 → t.ppu.vblank = true ∧
      (s.ppu.vblank = false → s.ppu.ctrl.nmiEnable = true → t.cpu.nmiPending = true ∧ t.cpu.nmiDelay = 1)) ∧
    (at' 261 1 → t.ppu.vblank = false ∧ t.ppu.spriteOverflow = false ∧ t.ppu.spriteZeroHit = false) ∧
    (¬ at' 241 1 → ¬ at' 261 1 → t.ppu.vblank = s.ppu.vblank) ∧
    (¬ (at' 241 1 ∧ s.ppu.vblank = false ∧ s.ppu.ctrl.nmiEnable = true) → t.cpu = s.cpu)

/-! ## PPU rendering -/

/-- Sprite evaluation. The entries of OAM from `oamAddr` on that intersect the scanline are kept in order, at most eight, each
with its four bytes and its number; a ninth sets the overflow flag and is not kept; nothing else changes (R540). The bounds of
the scan, the base of the number and the order of an entry's bytes are the spec's decision D26. -/
def Obligations.SpriteEvaluation : Prop :=
  ∀ (u : Ppu) (line : Nat),
    let h : Nat := if u.ctrl.sprite16 then 15 else 7
    let base := u.oamAddr.toNat
    let onLine (k : Nat) : Bool :=
      decide (base + 4 * k + 3 ≤ 255) && decide ((u.oam.read (base + 4 * k)).toNat ≤ line) &&
        decide (line ≤ (u.oam.read (base + 4 * k)).toNat + h)
    let found := (List.range 64).filter onLine
    let r := u.evaluateSprites line
    r.spriteCount = min 8 found.length ∧
    r.spriteOverflow = (u.spriteOverflow || decide (8 < found.length)) ∧
    (∀ (j : Fin 8) (k : Nat), found[j.val]? = some k →
      r.spriteIndex[j] = k ∧
      r.sprites[j] = { y := u.oam.read (base + 4 * k), tile := u.oam.read (base + 4 * k + 1),
                       attr := u.oam.read (base + 4 * k + 2), x := u.oam.read (base + 4 * k + 3) }) ∧
    { r with spriteCount := u.spriteCount, spriteOverflow := u.spriteOverflow, sprites := u.sprites,
             spriteIndex := u.spriteIndex } = u

/-- The background pipeline. The scroll arithmetic on the fields of `v`: coarse X, coarse Y, nametable X and Y, fine Y.
`IncrementX` wraps at 31 and toggles the horizontal nametable; `IncrementY` carries out of fine Y, wraps at 29 with a vertical
toggle and at 31 without; `CopyX` takes coarse X and nametable X of `t`, `CopyY` its other three fields, and each keeps the rest
of `v` (R536 to R539). The tile store: pixel `i` of the fetched tile, the leftmost being 0, goes to nibble `8 + i` of the shift
register as two attribute bits, the high plane's bit and the low plane's bit; the low half stays; eight shifts then bring it to
nibble `i` (R534, R535). The four fetches: the nametable byte, its two attribute bits, the two plane bytes of the tile's row
(R530 to R533). The dot schedule: which of these, of pixel output and of sprite evaluation happens at which position, in which
order (R520, R541). All but `IncrementX` and `IncrementY` are by the spec's decision D26. -/
def Obligations.BackgroundPipeline : Prop :=
  (∀ v t : BitVec 15,
    let cx (w : BitVec 15) : Nat := w.toNat % 32
    let cy (w : BitVec 15) : Nat := w.toNat / 32 % 32
    let nx (w : BitVec 15) : Nat := w.toNat / 1024 % 2
    let ny (w : BitVec 15) : Nat := w.toNat / 2048 % 2
    let fy (w : BitVec 15) : Nat := w.toNat / 4096
    (let w := incrementX v
     cx w = (cx v + 1) % 32 ∧ nx w = (if cx v = 31 then 1 - nx v else nx v) ∧ cy w = cy v ∧ ny w = ny v ∧ fy w = fy v) ∧
    (let w := incrementY v
     fy w = (fy v + 1) % 8 ∧ cx w = cx v ∧ nx w = nx v ∧
     cy w = (if fy v < 7 then cy v else if cy v = 29 then 0 else (cy v + 1) % 32) ∧
     ny w = (if fy v = 7 ∧ cy v = 29 then 1 - ny v else ny v)) ∧
    copyY (copyX v t) t = t ∧
    (let w := copyX v t
     cx w = cx t ∧ nx w = nx t ∧ cy w = cy v ∧ ny w = ny v ∧ fy w = fy v) ∧
    (let w := copyY v t
     cx w = cx v ∧ nx w = nx v ∧ cy w = cy t ∧ ny w = ny t ∧ fy w = fy t)) ∧
  (∀ (u : Ppu) (i : Nat), i < 8 →
    let nibble (w : BitVec 64) (k : Nat) : Nat := w.toNat / 16 ^ k % 16
    let pixel : Nat := 4 * u.atBits.toNat + 2 * (u.patHigh.getLsbD (7 - i)).toNat + (u.patLow.getLsbD (7 - i)).toNat
    nibble u.storeTile.tileShift (8 + i) = pixel ∧
    nibble u.storeTile.tileShift i = nibble u.tileShift i ∧
    nibble (Nat.repeat Ppu.shiftTiles 8 u.storeTile).tileShift i = pixel) ∧
  (∀ s : State,
    let v := s.ppu.v.toNat
    let row : Nat := 4096 * s.ppu.ctrl.bgTable.toNat + 16 * s.ppu.ntByte.toNat + v / 4096
    let attrByte := s.ppuRead (0x23C0 + v / 1024 % 4 * 1024 + v / 128 % 8 * 8 + v / 4 % 8)
    s.fetchNametable = { s with ppu := { s.ppu with ntByte := s.ppuRead (0x2000 + v % 4096) } } ∧
    s.fetchAttribute = { s with ppu := { s.ppu with
      atBits := BitVec.ofNat 2 (attrByte.toNat / 4 ^ (v / 64 % 2 * 2 + v / 2 % 2)) } } ∧
    s.fetchPatternLow = { s with ppu := { s.ppu with patLow := s.ppuRead row } } ∧
    s.fetchPatternHigh = { s with ppu := { s.ppu with patHigh := s.ppuRead (row + 8) } }) ∧
  (∀ s : State,
    let u := s.tick
    let y := u.ppu.scanline
    let c := u.ppu.cycle
    let fetches : Prop := (y < 240 ∨ y = 261) ∧ ((1 ≤ c ∧ c ≤ 256) ∨ (321 ≤ c ∧ c ≤ 336))
    let pixel (t : State) : State := if y < 240 ∧ 1 ≤ c ∧ c ≤ 256 then t.renderPixel y (c - 1) else t
    let fetch (t : State) : State :=
      let t := t.setPpu t.ppu.shiftTiles
      if c % 8 = 1 then t.fetchNametable else if c % 8 = 3 then t.fetchAttribute
      else if c % 8 = 5 then t.fetchPatternLow else if c % 8 = 7 then t.fetchPatternHigh
      else if c % 8 = 0 then t.setPpu t.ppu.storeTile else t
    let onV (p : Prop) [Decidable p] (f : BitVec 15 → BitVec 15) (t : State) : State :=
      if p then t.setPpu { t.ppu with v := f t.ppu.v } else t
    let scroll (t : State) : State :=
      onV ((y < 240 ∨ y = 261) ∧ c = 257) (copyX · t.ppu.t)
        (onV ((y < 240 ∨ y = 261) ∧ c = 256) incrementY
          (onV (fetches ∧ c % 8 = 0) incrementX
            (onV (y = 261 ∧ 280 ≤ c ∧ c ≤ 304) (copyY · t.ppu.t) t)))
    let sprites (t : State) : State :=
      if c = 257 then (if y < 240 then t.setPpu (t.ppu.evaluateSprites y) else t.setPpu { t.ppu with spriteCount := 0 })
      else t
    s.ppuStep = (if s.ppu.mask.showBg = true ∨ s.ppu.mask.showSprites = true then
      sprites (scroll (if fetches then fetch (pixel u) else pixel u)) else u).vblankStep y c)

/-- One pixel: the backdrop where both are transparent, the opaque one of the two, and where both are opaque the sprite unless its
priority bit puts it behind; the palette byte reduced to six bits goes to the frame buffer at `256 y + x` and nowhere else; an
opaque overlap with sprite index 0 sets the hit flag, which nothing here clears (R545, R546). Where its two pixels come from:
the background nibble of the shift register at `fineX`, gated by the mask (R544); the first sprite of the buffer with an opaque
pixel at this column and one line below its row, gated by the mask (R542), its colour from the two planes of its pattern, with
flips and the 8×16 form (R543). The sources of both pixels are by the spec's decision D26. -/
def Obligations.PixelOutput : Prop :=
  ∀ (s : State) (y x : Nat), s.Inv → y < 240 → x < 256 →
    let bg := (s.ppu.backgroundPixel x).toNat
    let sp := s.spritePixel y x
    let behind := (s.ppu.spriteAt sp.1).attr.getLsbD 5
    let colour : Nat :=
      if bg % 4 = 0 ∧ sp.2.toNat % 4 = 0 then 0
      else if bg % 4 = 0 then 16 + sp.2.toNat
      else if sp.2.toNat % 4 = 0 then bg
      else if behind then bg else 16 + sp.2.toNat
    let t := s.renderPixel y x
    t.ppu.framebuffer.read (256 * y + x) = s.ppuRead (0x3F00 + colour) &&& 0x3F ∧
    (∀ k, k ≠ 256 * y + x → t.ppu.framebuffer.read k = s.ppu.framebuffer.read k) ∧
    (t.ppu.spriteZeroHit = true ↔ s.ppu.spriteZeroHit = true ∨
      (bg % 4 ≠ 0 ∧ sp.2.toNat % 4 ≠ 0 ∧ s.ppu.spriteIndex[sp.1]?.getD 0 = 0)) ∧
    { t with ppu := { t.ppu with framebuffer := s.ppu.framebuffer, spriteZeroHit := s.ppu.spriteZeroHit } } = s ∧
    bg = (if s.ppu.mask.showBg = false ∨ (x < 8 ∧ s.ppu.mask.showBgLeft = false) then 0
      else s.ppu.tileShift.toNat / 16 ^ s.ppu.fineX.toNat % 16) ∧
    (let tall := s.ppu.ctrl.sprite16
     let h : Nat := if tall then 15 else 7
     let colourOf (p : Sprite) (row off : Nat) : Nat :=
       let r : Nat := if p.attr.getLsbD 7 then h - row else row
       let addr : Nat :=
         if tall then 4096 * (p.tile.toNat % 2) + 16 * (p.tile.toNat / 2 * 2 + r / 8) + r % 8
         else 4096 * s.ppu.ctrl.spriteTable.toNat + 16 * p.tile.toNat + r
       let b : Nat := if p.attr.getLsbD 6 then off else 7 - off
       2 * ((s.ppuRead (addr + 8)).toNat / 2 ^ b % 2) + (s.ppuRead addr).toNat / 2 ^ b % 2
     let colour (k : Nat) : Nat :=
       let p := s.ppu.spriteAt k
       if p.x.toNat ≤ x ∧ x ≤ p.x.toNat + 7 ∧ p.y.toNat + 1 ≤ y ∧ y ≤ p.y.toNat + 1 + h
       then colourOf p (y - 1 - p.y.toNat) (x - p.x.toNat) else 0
     let hidden : Prop := s.ppu.mask.showSprites = false ∨ (x < 8 ∧ s.ppu.mask.showSpritesLeft = false)
     (hidden ∨ (∀ k, k < s.ppu.spriteCount → colour k = 0) → sp = (0, 0)) ∧
     (∀ k, ¬ hidden → k < s.ppu.spriteCount → colour k ≠ 0 → (∀ j, j < k → colour j = 0) →
       sp.1 = k ∧ sp.2.toNat = 4 * ((s.ppu.spriteAt k).attr.toNat % 4) + colour k))

/-! ## Mappers -/

/-- Every derived offset stays inside the array it indexes, for every variant, bank register and address, and every nametable
address falls in the 2 KB of VRAM by the mirroring's table (R47, R604, R606). The four mirroring tables and the reduction of
offsets are the spec's decision D31. -/
def Obligations.OffsetsInBounds : Prop :=
  ∀ (k : Cart) (a : Word) (p : Nat), 0 < k.image.prgRomBanks →
    (0x8000 ≤ a → k.prgOffset a < k.image.prgRomBanks * 16384) ∧
    (p < 0x2000 → k.chrOffset p < (if k.image.chrBanks = 0 then 8192 else k.image.chrBanks * 8192)) ∧
    (0x2000 ≤ p → p < 0x3F00 →
      let table : Nat := (p - 0x2000) % 0x1000 / 0x400
      k.vramIndex p < 2048 ∧ k.vramIndex p % 0x400 = p % 0x400 ∧
      k.vramIndex p / 0x400 = match k.mirroring with
        | .horizontal => [0, 0, 1, 1][table]!
        | .vertical => [0, 1, 0, 1][table]!
        | .singleLower => 0
        | .singleUpper => 1)

/-- The variants without a serial protocol, after one register write: the bank registers, the PRG and CHR windows and the
mirroring that their rules give, an odd PRG bank count included (log 19; R604, R610, R620, R625, R630, R635, R640). ColorDream's
mirroring bit is the free constant of log 7. The bit fields, the reduction of banks and the mirroring values are the spec's
decision D31, that ColorDream's bit is open its decision D27. -/
def Obligations.DiscreteMappers : Prop :=
  ∀ (k : Cart) (w a : Word) (d : Byte) (p : Nat), 0x8000 ≤ a → p < 0x2000 →
    let o : Nat := a.toNat - 0x8000
    let n := k.image.prgRomBanks
    let chrLen : Nat := if k.image.chrBanks = 0 then 8192 else k.image.chrBanks * 8192
    let after := k.registerWrite w d
    let window32 (bank : Nat) : Nat := (32768 * bank + o) % (16384 * n)
    let chr8 (bank : Nat) : Nat := 8192 * (bank % (chrLen / 8192)) + p
    (k.regs = .nrom → after = k ∧ after.prgOffset a = o % (16384 * n) ∧ after.chrOffset p = p) ∧
    (∀ b, k.regs = .uxrom b → after.chrOffset p = p ∧ after.mirroring = k.mirroring ∧
      after.prgOffset a = (if a < 0xC000 then 16384 * (d.toNat % 16 % n) + o
        else 16384 * ((n - 1) % n) + (a.toNat - 0xC000))) ∧
    (∀ b, k.regs = .cnrom b → after.chrOffset p = chr8 (d.toNat % 4) ∧ after.prgOffset a = o % (16384 * n) ∧
      after.mirroring = k.mirroring) ∧
    (∀ b c, k.regs = .gxrom b c → after.chrOffset p = chr8 (d.toNat % 4) ∧ after.mirroring = k.mirroring ∧
      after.prgOffset a = window32 (d.toNat / 16 % 4)) ∧
    (∀ b c, k.regs = .colorDream b c → after.chrOffset p = chr8 (d.toNat / 16) ∧
      after.prgOffset a = window32 (d.toNat % 4) ∧
      after.mirroring = (if d.getLsbD Config.cdMirrorBit.val then .singleUpper else .singleLower)) ∧
    (∀ b, k.regs = .axrom b → after.chrOffset p = p ∧ after.prgOffset a = window32 (d.toNat % 8) ∧
      after.mirroring = (if d.getLsbD 4 then .singleUpper else .singleLower))

/-- MMC1's serial port: from an empty shift register, five writes with bit 7 clear commit the five bits 0, first bit lowest, to
the register that the fifth address selects, and change no other register; a write with bit 7 set empties the shift register,
sets control bits 3 and 2, and changes nothing else; a new control value applies its mirroring in both cases (R646, R647). The
control register's fields, which mirroring its low two bits select, and the choice by the fifth address are the spec's decision
D29. -/
def Obligations.Mmc1SerialCommit : Prop :=
  ∀ (k : Cart) (r : Mmc1) (a0 a1 a2 a3 a4 : Word) (d0 d1 d2 d3 d4 : Byte), k.regs = .mmc1 r →
    let mirrored (control : BitVec 5) : Mirroring := match control.toNat % 4 with
      | 0 => .singleLower
      | 1 => .singleUpper
      | 2 => .vertical
      | _ => .horizontal
    (r.shift = 0 → r.count = 0 → (∀ d ∈ [d0, d1, d2, d3, d4], d.getLsbD 7 = false) →
      let value : BitVec 5 := BitVec.ofNat 5
        (d0.toNat % 2 + 2 * (d1.toNat % 2) + 4 * (d2.toNat % 2) + 8 * (d3.toNat % 2) + 16 * (d4.toNat % 2))
      let t := ((((k.registerWrite a0 d0).registerWrite a1 d1).registerWrite a2 d2).registerWrite a3 d3).registerWrite a4 d4
      t = match a4.toNat / 8192 % 4 with
        | 0 => { k with regs := .mmc1 { r with control := value }, mirroring := mirrored value }
        | 1 => { k with regs := .mmc1 { r with chr0 := value } }
        | 2 => { k with regs := .mmc1 { r with chr1 := value } }
        | _ => { k with regs := .mmc1 { r with prg := value } }) ∧
    (d0.getLsbD 7 = true → k.registerWrite a0 d0 =
      { k with regs := .mmc1 { r with shift := 0, count := 0, control := r.control ||| 0x0C },
               mirroring := mirrored r.control })

/-- The bank windows of MMC1 (R648, R649, with the register fields of the spec's decision D29) and of MMC3 (R672, R673, by its
decision D30). The reduction of banks is its decision D31. -/
def Obligations.SerialMapperWindows : Prop :=
  ∀ (k : Cart) (a : Word) (p : Nat), 0x8000 ≤ a → p < 0x2000 →
    let n := k.image.prgRomBanks
    let chrLen : Nat := if k.image.chrBanks = 0 then 8192 else k.image.chrBanks * 8192
    (∀ r : Mmc1, k.regs = .mmc1 r →
      let b := r.prg.toNat % 16
      let win : Nat := if a < 0xC000 then 0 else 1
      let bank : Nat :=
        if r.control.getLsbD 3 = false then b - b % 2 + win
        else if r.control.getLsbD 2 = false then (if win = 0 then 0 else b)
        else (if win = 0 then b else n - 1)
      let cwin : Nat := if p < 0x1000 then 0 else 1
      let cbank : Nat :=
        if r.control.getLsbD 4 then (if cwin = 0 then r.chr0.toNat else r.chr1.toNat)
        else r.chr0.toNat - r.chr0.toNat % 2 + cwin
      k.prgOffset a = 16384 * (bank % n) + a.toNat % 0x4000 ∧
      k.chrOffset p = 4096 * (cbank % (chrLen / 4096)) + p % 0x1000) ∧
    (∀ r : Mmc3, k.regs = .mmc3 r →
      let R (j : Nat) : Nat := (r.bank[j]?.getD 0).toNat
      let n8 := 2 * n
      let win : Nat := (a.toNat - 0x8000) / 0x2000
      let bank : Nat :=
        (if r.select.getLsbD 6 then [n8 - 2, R 7, R 6, n8 - 1] else [R 6, R 7, n8 - 2, n8 - 1])[win]?.getD 0
      let pair (j : Nat) : Nat := R j - R j % 2
      let low : List Nat := [pair 0, pair 0 + 1, pair 1, pair 1 + 1]
      let high : List Nat := [R 2, R 3, R 4, R 5]
      let cbank : Nat := (if r.select.getLsbD 7 then high ++ low else low ++ high)[p / 0x400]?.getD 0
      k.prgOffset a = 8192 * (bank % n8) + a.toNat % 0x2000 ∧
      k.chrOffset p = 1024 * (cbank % (chrLen / 1024)) + p % 0x400)

/-- MMC3's register file: what each even or odd address of the four ranges writes; no write touches another register (R671,
R674). The register addresses and the mirroring bit are the spec's decision D30. -/
def Obligations.Mmc3RegisterWrites : Prop :=
  ∀ (k : Cart) (r : Mmc3) (a : Word) (d : Byte), k.regs = .mmc3 r → 0x8000 ≤ a →
    let odd : Bool := decide (a.toNat % 2 = 1)
    let regs (r' : Mmc3) : Cart := { k with regs := .mmc3 r' }
    k.registerWrite a d =
      if a < 0xA000 then
        (if odd then regs { r with bank := r.bank.setIfInBounds (r.select.toNat % 8) d } else regs { r with select := d })
      else if a < 0xC000 then
        (if odd then regs r else { regs r with mirroring := if d.getLsbD 0 then .horizontal else .vertical })
      else if a < 0xE000 then (if odd then regs { r with irqCounter := 0 } else regs { r with irqLatch := d })
      else regs { r with irqEnable := odd }

/-- MMC3's scanline counter: it is clocked only at dot 315 of a render line with rendering on. From a counter of 0 and a latch
of `N` > 0, the first clock reloads, the `N`-th clock after it reaches 0 and requests an IRQ if enabled, no clock before does;
with a latch of 0 no clock ever does (R674, R675). The reload-or-decrement form, by which a reload requests no IRQ even with
latch 0, is the spec's decision D30; that a request is dropped while I is set is its decision D10. -/
def Obligations.Mmc3ScanlineCounter : Prop :=
  (∀ (s : State) (r : Mmc3), s.cart.regs = .mmc3 r →
    ((s.ppu.cycle ≠ 315 ∨ (240 ≤ s.ppu.scanline ∧ s.ppu.scanline ≠ 261) ∨
        (s.ppu.mask.showBg = false ∧ s.ppu.mask.showSprites = false)) → s.mapperStep = s) ∧
    (s.ppu.cycle = 315 → (s.ppu.scanline < 240 ∨ s.ppu.scanline = 261) →
        (s.ppu.mask.showBg = true ∨ s.ppu.mask.showSprites = true) →
      s.mapperStep.cart = { s.cart with regs := .mmc3 r.clock } ∧
      (s.mapperStep.cpu.irqPending = true ↔
        s.cpu.irqPending = true ∨ (r.clockTriggers = true ∧ s.cpu.p.i = false)))) ∧
  (∀ (r : Mmc3) (n : Nat), r.irqCounter = 0 → n ≤ r.irqLatch.toNat →
    let after := Nat.repeat Mmc3.clock (n + 1) r
    after.irqCounter.toNat = r.irqLatch.toNat - n ∧ after.irqLatch = r.irqLatch ∧
    (after.clockTriggers = true ↔ r.irqEnable = true ∧ n + 1 = r.irqLatch.toNat)) ∧
  (∀ (r : Mmc3) (n : Nat), r.irqCounter = 0 → r.irqLatch = 0 → (Nat.repeat Mmc3.clock n r).clockTriggers = false)

/-- Mapper185's lockout, whatever the open transition function is: in a locked state every CHR read returns `0x0F`, in an
unlocked one the byte of the array; reset locks it; from reset the writes `0x33` and then `0x11` unlock it; a write moves the
state by the transition function and changes nothing else (R660; log 8). That the transition function is open, and what it must
satisfy, is the spec's decision D28, the reduction of CHR addresses its decision D31. -/
def Obligations.Mapper185Lockout : Prop :=
  ∀ (k : Cart) (st : Nat) (a b : Word) (p : Nat), k.regs = .mapper185 st → p < 0x2000 →
    let byte := k.chr.read (p % (if k.image.chrBanks = 0 then 8192 else k.image.chrBanks * 8192))
    (m185Unlocked st = false → k.chrRead p = 0x0F) ∧
    (m185Unlocked st = true → k.chrRead p = byte) ∧
    k.reset.regs = .mapper185 0 ∧ (k.reset).chrRead p = 0x0F ∧
    ((k.reset.registerWrite a 0x33).registerWrite b 0x11).chrRead p = byte ∧
    (∀ d, k.registerWrite a d = { k with regs := .mapper185 (m185Next st d) })

/-! ## Reset -/

/-- Reset of any machine: every field of R50 (with `RESET_CYCLES` 0 by log 9), `PC` from the reset vector through the mapper
already reset, the mapper's registers at their reset values, no fault; the contents of RAM, OAM, VRAM, palette, PRG-RAM, CHR-RAM
and expansion RAM stay (the spec's decisions D15, D16; log 25); the state after reset is one that another reset leaves alone
(R50, R450, R451, R610 to R670, R708). The CPU's values are the spec's decision D16, the PPU's D32, the mappers' D28 to D31;
that the start of `cycles` is open is its decision D14. -/
def Obligations.ResetValues : Prop :=
  (∀ s : State,
    let t := s.resetMachine
    t.cpu = { a := 0, x := 0, y := 0, s := 0xFD, pc := t.cpu.pc,
              p := { c := false, z := false, i := true, d := false, b := false, v := false, n := false },
              irqPending := false, nmiPending := false, nmiDelay := 0, idle := 0, cycles := 0 } ∧
    memRead16 0xFFFC t = .ok (t.cpu.pc, t) ∧ t.fault = none ∧
    t.bus = { ram := s.bus.ram, ctrlButtons := ⟨false, false, false, false, false, false, false, false⟩, ctrlIndex := 0 } ∧
    t.ppu = { scanline := 0, cycle := 0, f := false, v := 0, t := 0, fineX := 0, w := false, oam := s.ppu.oam, oamAddr := 0,
              spriteCount := 0, sprites := Vector.replicate 8 ⟨0, 0, 0, 0⟩, spriteIndex := Vector.replicate 8 0,
              tileShift := 0, ntByte := 0, atBits := 0, patLow := 0, patHigh := 0,
              ctrl := ⟨0, false, false, false, false, false, false⟩, mask := ⟨false, false, false, false, false, 0⟩,
              vblank := false, spriteOverflow := false, spriteZeroHit := false, lastWrite := 0, readBuffer := 0,
              nmiLine := false, vram := s.ppu.vram, palette := s.ppu.palette, framebuffer := t.ppu.framebuffer } ∧
    (∀ k, t.ppu.framebuffer.read k = 0) ∧
    t.cart = { s.cart with regs := t.cart.regs, mirroring := t.cart.mirroring } ∧
    t.cart.mirroring = (if s.cart.image.headerMirroring = .horizontal then .horizontal else .vertical) ∧
    t.cart.regs = (match s.cart.regs with
      | .nrom => .nrom
      | .mmc1 _ => .mmc1 ⟨0, 0, 0x0C, 0, 0, 0⟩
      | .uxrom _ => .uxrom 0
      | .cnrom _ => .cnrom 0
      | .mmc3 _ => .mmc3 ⟨0, Vector.replicate 8 0, 0, 0, false⟩
      | .axrom _ => .axrom 0
      | .colorDream _ _ => .colorDream 0 0
      | .gxrom _ _ => .gxrom 0 0
      | .mapper185 _ => .mapper185 0) ∧
    t.unofficialExtras = s.unofficialExtras ∧ t.resetMachine = t) ∧
  State.reset.resetMachine = State.reset
end

