-- ==== Sys2Proof/Laws/Memory.lean ====
section
/-! SUPPORT. Laws of the byte arrays: read after write, and the canonical form under every operation. -/

namespace Sys2Proof.Machine.Memory

open Sys2Proof

/-- Below the first index of a canonical array nothing is listed. -/
theorem read_below {size : Nat} : ∀ {lo : Nat} {m : Memory} {k : Nat},
    wfFrom size lo m = true → k < lo → read m k = unlisted := by
  intro lo m k h hk
  cases m with
  | nil => rfl
  | cons c m =>
    obtain ⟨j, v⟩ := c
    simp only [wfFrom, Bool.and_eq_true, decide_eq_true_eq] at h
    have h1 : j ≠ k := by omega
    have h2 : k < j := by omega
    simp [read, h1, h2]

/-- The canonical form may be claimed from any lower index. -/
theorem wfFrom_mono {size lo lo' : Nat} {m : Memory} (h : wfFrom size lo m = true) (hl : lo' ≤ lo) :
    wfFrom size lo' m = true := by
  cases m with
  | nil => rfl
  | cons c m =>
    obtain ⟨j, v⟩ := c
    simp only [wfFrom, Bool.and_eq_true, decide_eq_true_eq] at h ⊢
    exact ⟨⟨⟨by omega, h.1.1.2⟩, h.1.2⟩, h.2⟩

/-- A write keeps the canonical form. -/
theorem wfFrom_write {size : Nat} : ∀ {m : Memory} {lo k : Nat} (b : Byte),
    wfFrom size lo m = true → lo ≤ k → k < size → wfFrom size lo (write m k b) = true := by
  intro m
  induction m with
  | nil =>
    intro lo k b _ hlo hk
    by_cases hb : b = unlisted
    · simp [write, hb, wfFrom]
    · simp [write, hb, wfFrom, hlo, hk]
  | cons c m ih =>
    obtain ⟨j, v⟩ := c
    intro lo k b h hlo hk
    have h0 := h
    simp only [wfFrom, Bool.and_eq_true, decide_eq_true_eq] at h
    obtain ⟨⟨⟨hj, hjs⟩, hv⟩, hm⟩ := h
    by_cases hjk : j = k
    · by_cases hb : b = unlisted
      · simpa [write, hjk, hb] using wfFrom_mono hm (by omega)
      · simp only [write, hjk, hb, if_true, if_false, wfFrom, Bool.and_eq_true, decide_eq_true_eq]
        exact ⟨⟨⟨hlo, hk⟩, by simpa using hb⟩, hjk ▸ hm⟩
    · by_cases hlt : k < j
      · by_cases hb : b = unlisted
        · simpa [write, hjk, hlt, hb] using h0
        · simp only [write, hjk, hlt, hb, if_true, if_false, wfFrom, Bool.and_eq_true, decide_eq_true_eq]
          exact ⟨⟨⟨hlo, hk⟩, by simpa using hb⟩, ⟨⟨by omega, hjs⟩, hv⟩, hm⟩
      · simp only [write, hjk, hlt, if_false, wfFrom, Bool.and_eq_true, decide_eq_true_eq]
        exact ⟨⟨⟨hj, hjs⟩, hv⟩, ih b hm (by omega) hk⟩

/-- A write inside the array keeps its canonical form. -/
theorem wf_write {size k : Nat} {m : Memory} (b : Byte) (h : wf size m = true) (hk : k < size) :
    wf size (write m k b) = true := wfFrom_write b h (Nat.zero_le k) hk

/-- A read after a write to the same index gives the byte written. -/
theorem read_write_same {size : Nat} : ∀ {m : Memory} {lo k : Nat} (b : Byte),
    wfFrom size lo m = true → lo ≤ k → read (write m k b) k = b := by
  intro m
  induction m with
  | nil =>
    intro lo k b _ _
    by_cases hb : b = unlisted <;> simp [write, hb, read]
  | cons c m ih =>
    obtain ⟨j, v⟩ := c
    intro lo k b h hlo
    simp only [wfFrom, Bool.and_eq_true, decide_eq_true_eq] at h
    by_cases hjk : j = k
    · by_cases hb : b = unlisted
      · simpa [write, hjk, hb] using read_below h.2 (by omega : k < j + 1)
      · simp [write, hjk, hb, read]
    · by_cases hlt : k < j
      · by_cases hb : b = unlisted
        · simp [write, hjk, hlt, hb, read]
        · simp [write, hjk, hlt, hb, read]
      · simpa [write, hjk, hlt, read] using ih b h.2 (by omega)

/-- A write leaves every other index alone. -/
theorem read_write_other : ∀ {size lo : Nat} {m : Memory} {k i : Nat} (b : Byte),
    wfFrom size lo m = true → i ≠ k → read (write m k b) i = read m i := by
  intro size lo m
  induction m generalizing lo with
  | nil =>
    intro k i b _ hik
    by_cases hb : b = unlisted
    · simp [write, hb]
    · by_cases hki : i < k
      · simp [write, hb, read, hki, Ne.symm hik]
      · simp [write, hb, read, hki, Ne.symm hik]
  | cons c m ih =>
    obtain ⟨j, v⟩ := c
    intro k i b h hik
    simp only [wfFrom, Bool.and_eq_true, decide_eq_true_eq] at h
    by_cases hjk : j = k
    · subst hjk
      by_cases hb : b = unlisted
      · simp only [write, hb, if_true, read, Ne.symm hik, if_false]
        by_cases hij : i < j
        · simp only [hij, if_true]
          exact read_below h.2 (by omega)
        · simp [hij]
      · simp [write, hb, read, Ne.symm hik]
    · by_cases hlt : k < j
      · by_cases hb : b = unlisted
        · simp [write, hjk, hlt, hb]
        · simp only [write, hjk, hlt, hb, if_true, if_false, read, Ne.symm hik]
          by_cases hik' : i < k
          · have : j ≠ i := by omega
            have h2 : i < j := by omega
            simp [hik', this, h2]
          · simp [hik']
      · simp only [write, hjk, hlt, if_false, read]
        by_cases hji : j = i
        · simp [hji]
        · by_cases hij : i < j
          · simp [hji, hij]
          · simpa [hji, hij] using ih b h.2 hik

/-- A read after a write, by index. -/
theorem read_write {size : Nat} {m : Memory} (b : Byte) (h : wf size m = true) (k i : Nat) :
    read (write m k b) i = if i = k then b else read m i := by
  by_cases hik : i = k
  · simpa [hik] using read_write_same b h (Nat.zero_le k)
  · simpa [hik] using read_write_other b h hik

/-- An array built from bytes is canonical. -/
theorem wfFrom_ofBytes {size : Nat} : ∀ (bs : List Byte) (lo k : Nat), lo ≤ k → k + bs.length ≤ size →
    wfFrom size lo (ofBytes k bs) = true := by
  intro bs
  induction bs with
  | nil => intros; rfl
  | cons b bs ih =>
    intro lo k hlo hk
    simp only [List.length_cons] at hk
    by_cases hb : b = unlisted
    · simpa [ofBytes, hb] using ih lo (k + 1) (by omega) (by omega)
    · simp only [ofBytes, hb, if_false, wfFrom, Bool.and_eq_true, decide_eq_true_eq]
      exact ⟨⟨⟨hlo, by omega⟩, by simpa using hb⟩, ih (k + 1) (k + 1) (Nat.le_refl _) (by omega)⟩

end Sys2Proof.Machine.Memory
end

