-- ==== Sys2Proof/Laws/Mapper.lean ====
section
/-! SUPPORT. Laws of the cartridge: CHR offsets and nametable indexes stay inside their arrays, register writes change no
array, and every write keeps the cartridge invariant. -/

namespace Sys2Proof.Machine

open Sys2Proof

/-- `CHRLEN` is a positive multiple of 8192. -/
theorem chrLen_eq (m : CartImage) : ∃ n, 0 < n ∧ m.chrLen = n * 8192 := by
  by_cases h : m.chrBanks = 0
  · exact ⟨1, by omega, by simp [CartImage.chrLen, h]⟩
  · exact ⟨m.chrBanks, by omega, by simp [CartImage.chrLen, h]⟩

/-- A bank of `z` bytes, reduced modulo the number of banks, lies inside the array. -/
theorem bank_lt {len z : Nat} (hz : 0 < z) (hlen : z ≤ len) (b o : Nat) (ho : o < z) : z * (b % (len / z)) + o < len := by
  have h1 : 0 < len / z := Nat.div_pos hlen hz
  have h2 : b % (len / z) + 1 ≤ len / z := Nat.mod_lt b h1
  have h3 : z * (b % (len / z) + 1) ≤ z * (len / z) := Nat.mul_le_mul_left z h2
  have h4 : z * (len / z) ≤ len := Nat.mul_div_le len z
  rw [Nat.mul_add] at h3
  omega

/-- A CHR offset lies inside `chr` (R47, R604). -/
theorem chrOffset_lt (k : Cart) {a : Nat} (ha : a < 0x2000) : k.chrOffset a < k.image.chrLen := by
  obtain ⟨n, hn, hlen⟩ := chrLen_eq k.image
  have h8 : 8192 ≤ k.image.chrLen := by omega
  have hid : a < k.image.chrLen := by omega
  have h8k : ∀ b, chr8k k.image b a < k.image.chrLen := fun b => bank_lt (by omega) h8 b a (by omega)
  unfold Cart.chrOffset
  split
  · exact hid
  · exact bank_lt (by omega) (by omega) _ _ (Nat.mod_lt _ (by omega))
  · exact hid
  · exact h8k _
  · exact bank_lt (by omega) (by omega) _ _ (Nat.mod_lt _ (by omega))
  · exact hid
  · exact h8k _
  · exact h8k _
  · exact Nat.mod_lt _ (by omega)

/-- A nametable index lies inside the 2 KB of VRAM (R606). -/
theorem vramIndex_lt (k : Cart) (a : Nat) : k.vramIndex a < 2048 := by
  have h1 : (a - 0x2000) % 0x1000 / 0x400 < 4 := by omega
  have h2 : k.mirroring.page ((a - 0x2000) % 0x1000 / 0x400) ≤ 1 := by
    unfold Mirroring.page
    split <;> omega
  simp only [Cart.vramIndex]
  omega

/-- A palette index lies inside the 32 bytes of palette RAM (R107). -/
theorem paletteIndex_lt (a : Nat) : paletteIndex a < 32 := by
  simp only [paletteIndex]
  split <;> omega

/-- A register write changes no array and nothing the cartridge file fixes (R603, R610 to R671). -/
theorem registerWrite_arrays (k : Cart) (a : Word) (d : Byte) :
    (k.registerWrite a d).image = k.image ∧ (k.registerWrite a d).chr = k.chr ∧
    (k.registerWrite a d).prgRam = k.prgRam ∧ (k.registerWrite a d).expRam = k.expRam := by
  unfold Cart.registerWrite
  split <;> exact ⟨rfl, rfl, rfl, rfl⟩

/-- MMC1's serial counter stays 0 to 4 (R646). -/
theorem mmc1_count (r : Mmc1) (a : Word) (d : Byte) (h : r.count ≤ 4) : (r.registerWrite a d).count ≤ 4 := by
  unfold Mmc1.registerWrite
  split
  · exact Nat.zero_le _
  · simp only []
    split
    · simp only [Mmc1.commit]
      split <;> exact Nat.zero_le _
    · next hc => exact (by omega : r.count + 1 ≤ 4)

/-- A register write keeps the registers in range. -/
theorem registerWrite_ok (k : Cart) (a : Word) (d : Byte) (h : k.regs.ok = true) : (k.registerWrite a d).regs.ok = true := by
  unfold Cart.registerWrite
  split <;> rename_i hr <;> first | exact h | rfl | skip
  simp only [hr, MapperRegs.ok, decide_eq_true_eq] at h ⊢
  exact mmc1_count _ a d h

/-- A CPU-bus write keeps the cartridge invariant. -/
theorem cpuWrite_inv {k t : Cart} {a : Word} {d : Byte} (h : k.cpuWrite a d = some t) (hk : k.Inv) : t.Inv := by
  unfold Cart.cpuWrite at h
  split at h
  · cases h
  · split at h
    · next h6 h8 =>
      simp only [Option.some.injEq] at h
      split at h <;> subst h
      · refine ⟨hk.1, hk.2.1, Memory.wf_write d hk.2.2.1 ?_, hk.2.2.2⟩
        bv_omega
      · exact hk
    · simp only [Option.some.injEq] at h
      subst h
      obtain ⟨h1, h2, h3, h4⟩ := registerWrite_arrays k a d
      have h5 := registerWrite_ok k a d hk.2.2.2.2
      unfold Cart.Inv
      rw [h1, h2, h3, h4]
      exact ⟨hk.1, hk.2.1, hk.2.2.1, hk.2.2.2.1, h5⟩

/-- A PPU-bus write below `0x2000` keeps the cartridge invariant. -/
theorem chrWrite_inv {k t : Cart} {a : Nat} {d : Byte} (h : k.chrWrite a d = some t) (ha : a < 0x2000) (hk : k.Inv) :
    t.Inv := by
  unfold Cart.chrWrite at h
  split at h
  · simp only [Option.some.injEq] at h
    subst h
    exact ⟨hk.1, Memory.wf_write d hk.2.1 (chrOffset_lt k ha), hk.2.2⟩
  · cases h

/-- Clocking MMC3 keeps the cartridge invariant. -/
theorem mmc3_clock_inv {k : Cart} {r : Mmc3} (hk : k.Inv) : ({ k with regs := .mmc3 r } : Cart).Inv :=
  ⟨hk.1, hk.2.1, hk.2.2.1, hk.2.2.2.1, rfl⟩

end Sys2Proof.Machine
end

