-- ==== Sys2Proof/Laws/State.lean ====
section
/-! SUPPORT. One lemma for each field of State after each update, so that no proof unfolds a record update. -/

namespace Sys2Proof.Machine.State

open Sys2Proof

/-! ## `setA` -/

@[simp] theorem setA_a (s : State) (v : Byte) : (s.setA v).cpu.a = v := rfl
@[simp] theorem setA_x (s : State) (v : Byte) : (s.setA v).cpu.x = s.cpu.x := rfl
@[simp] theorem setA_y (s : State) (v : Byte) : (s.setA v).cpu.y = s.cpu.y := rfl
@[simp] theorem setA_s (s : State) (v : Byte) : (s.setA v).cpu.s = s.cpu.s := rfl
@[simp] theorem setA_pc (s : State) (v : Byte) : (s.setA v).cpu.pc = s.cpu.pc := rfl
@[simp] theorem setA_p (s : State) (v : Byte) : (s.setA v).cpu.p = s.cpu.p := rfl
@[simp] theorem setA_irqPending (s : State) (v : Byte) : (s.setA v).cpu.irqPending = s.cpu.irqPending := rfl
@[simp] theorem setA_nmiPending (s : State) (v : Byte) : (s.setA v).cpu.nmiPending = s.cpu.nmiPending := rfl
@[simp] theorem setA_nmiDelay (s : State) (v : Byte) : (s.setA v).cpu.nmiDelay = s.cpu.nmiDelay := rfl
@[simp] theorem setA_idle (s : State) (v : Byte) : (s.setA v).cpu.idle = s.cpu.idle := rfl
@[simp] theorem setA_cycles (s : State) (v : Byte) : (s.setA v).cpu.cycles = s.cpu.cycles := rfl
@[simp] theorem setA_bus (s : State) (v : Byte) : (s.setA v).bus = s.bus := rfl
@[simp] theorem setA_ppu (s : State) (v : Byte) : (s.setA v).ppu = s.ppu := rfl
@[simp] theorem setA_cart (s : State) (v : Byte) : (s.setA v).cart = s.cart := rfl
@[simp] theorem setA_fault (s : State) (v : Byte) : (s.setA v).fault = s.fault := rfl
@[simp] theorem setA_unofficialExtras (s : State) (v : Byte) : (s.setA v).unofficialExtras = s.unofficialExtras := rfl
@[simp] theorem setA_draws (s : State) (v : Byte) : (s.setA v).draws = s.draws := rfl
@[simp] theorem setA_buttonInputs (s : State) (v : Byte) : (s.setA v).buttonInputs = s.buttonInputs := rfl
@[simp] theorem setA_lastFrame (s : State) (v : Byte) : (s.setA v).lastFrame = s.lastFrame := rfl

/-! ## `setX` -/

@[simp] theorem setX_a (s : State) (v : Byte) : (s.setX v).cpu.a = s.cpu.a := rfl
@[simp] theorem setX_x (s : State) (v : Byte) : (s.setX v).cpu.x = v := rfl
@[simp] theorem setX_y (s : State) (v : Byte) : (s.setX v).cpu.y = s.cpu.y := rfl
@[simp] theorem setX_s (s : State) (v : Byte) : (s.setX v).cpu.s = s.cpu.s := rfl
@[simp] theorem setX_pc (s : State) (v : Byte) : (s.setX v).cpu.pc = s.cpu.pc := rfl
@[simp] theorem setX_p (s : State) (v : Byte) : (s.setX v).cpu.p = s.cpu.p := rfl
@[simp] theorem setX_irqPending (s : State) (v : Byte) : (s.setX v).cpu.irqPending = s.cpu.irqPending := rfl
@[simp] theorem setX_nmiPending (s : State) (v : Byte) : (s.setX v).cpu.nmiPending = s.cpu.nmiPending := rfl
@[simp] theorem setX_nmiDelay (s : State) (v : Byte) : (s.setX v).cpu.nmiDelay = s.cpu.nmiDelay := rfl
@[simp] theorem setX_idle (s : State) (v : Byte) : (s.setX v).cpu.idle = s.cpu.idle := rfl
@[simp] theorem setX_cycles (s : State) (v : Byte) : (s.setX v).cpu.cycles = s.cpu.cycles := rfl
@[simp] theorem setX_bus (s : State) (v : Byte) : (s.setX v).bus = s.bus := rfl
@[simp] theorem setX_ppu (s : State) (v : Byte) : (s.setX v).ppu = s.ppu := rfl
@[simp] theorem setX_cart (s : State) (v : Byte) : (s.setX v).cart = s.cart := rfl
@[simp] theorem setX_fault (s : State) (v : Byte) : (s.setX v).fault = s.fault := rfl
@[simp] theorem setX_unofficialExtras (s : State) (v : Byte) : (s.setX v).unofficialExtras = s.unofficialExtras := rfl
@[simp] theorem setX_draws (s : State) (v : Byte) : (s.setX v).draws = s.draws := rfl
@[simp] theorem setX_buttonInputs (s : State) (v : Byte) : (s.setX v).buttonInputs = s.buttonInputs := rfl
@[simp] theorem setX_lastFrame (s : State) (v : Byte) : (s.setX v).lastFrame = s.lastFrame := rfl

/-! ## `setY` -/

@[simp] theorem setY_a (s : State) (v : Byte) : (s.setY v).cpu.a = s.cpu.a := rfl
@[simp] theorem setY_x (s : State) (v : Byte) : (s.setY v).cpu.x = s.cpu.x := rfl
@[simp] theorem setY_y (s : State) (v : Byte) : (s.setY v).cpu.y = v := rfl
@[simp] theorem setY_s (s : State) (v : Byte) : (s.setY v).cpu.s = s.cpu.s := rfl
@[simp] theorem setY_pc (s : State) (v : Byte) : (s.setY v).cpu.pc = s.cpu.pc := rfl
@[simp] theorem setY_p (s : State) (v : Byte) : (s.setY v).cpu.p = s.cpu.p := rfl
@[simp] theorem setY_irqPending (s : State) (v : Byte) : (s.setY v).cpu.irqPending = s.cpu.irqPending := rfl
@[simp] theorem setY_nmiPending (s : State) (v : Byte) : (s.setY v).cpu.nmiPending = s.cpu.nmiPending := rfl
@[simp] theorem setY_nmiDelay (s : State) (v : Byte) : (s.setY v).cpu.nmiDelay = s.cpu.nmiDelay := rfl
@[simp] theorem setY_idle (s : State) (v : Byte) : (s.setY v).cpu.idle = s.cpu.idle := rfl
@[simp] theorem setY_cycles (s : State) (v : Byte) : (s.setY v).cpu.cycles = s.cpu.cycles := rfl
@[simp] theorem setY_bus (s : State) (v : Byte) : (s.setY v).bus = s.bus := rfl
@[simp] theorem setY_ppu (s : State) (v : Byte) : (s.setY v).ppu = s.ppu := rfl
@[simp] theorem setY_cart (s : State) (v : Byte) : (s.setY v).cart = s.cart := rfl
@[simp] theorem setY_fault (s : State) (v : Byte) : (s.setY v).fault = s.fault := rfl
@[simp] theorem setY_unofficialExtras (s : State) (v : Byte) : (s.setY v).unofficialExtras = s.unofficialExtras := rfl
@[simp] theorem setY_draws (s : State) (v : Byte) : (s.setY v).draws = s.draws := rfl
@[simp] theorem setY_buttonInputs (s : State) (v : Byte) : (s.setY v).buttonInputs = s.buttonInputs := rfl
@[simp] theorem setY_lastFrame (s : State) (v : Byte) : (s.setY v).lastFrame = s.lastFrame := rfl

/-! ## `setS` -/

@[simp] theorem setS_a (s : State) (v : Byte) : (s.setS v).cpu.a = s.cpu.a := rfl
@[simp] theorem setS_x (s : State) (v : Byte) : (s.setS v).cpu.x = s.cpu.x := rfl
@[simp] theorem setS_y (s : State) (v : Byte) : (s.setS v).cpu.y = s.cpu.y := rfl
@[simp] theorem setS_s (s : State) (v : Byte) : (s.setS v).cpu.s = v := rfl
@[simp] theorem setS_pc (s : State) (v : Byte) : (s.setS v).cpu.pc = s.cpu.pc := rfl
@[simp] theorem setS_p (s : State) (v : Byte) : (s.setS v).cpu.p = s.cpu.p := rfl
@[simp] theorem setS_irqPending (s : State) (v : Byte) : (s.setS v).cpu.irqPending = s.cpu.irqPending := rfl
@[simp] theorem setS_nmiPending (s : State) (v : Byte) : (s.setS v).cpu.nmiPending = s.cpu.nmiPending := rfl
@[simp] theorem setS_nmiDelay (s : State) (v : Byte) : (s.setS v).cpu.nmiDelay = s.cpu.nmiDelay := rfl
@[simp] theorem setS_idle (s : State) (v : Byte) : (s.setS v).cpu.idle = s.cpu.idle := rfl
@[simp] theorem setS_cycles (s : State) (v : Byte) : (s.setS v).cpu.cycles = s.cpu.cycles := rfl
@[simp] theorem setS_bus (s : State) (v : Byte) : (s.setS v).bus = s.bus := rfl
@[simp] theorem setS_ppu (s : State) (v : Byte) : (s.setS v).ppu = s.ppu := rfl
@[simp] theorem setS_cart (s : State) (v : Byte) : (s.setS v).cart = s.cart := rfl
@[simp] theorem setS_fault (s : State) (v : Byte) : (s.setS v).fault = s.fault := rfl
@[simp] theorem setS_unofficialExtras (s : State) (v : Byte) : (s.setS v).unofficialExtras = s.unofficialExtras := rfl
@[simp] theorem setS_draws (s : State) (v : Byte) : (s.setS v).draws = s.draws := rfl
@[simp] theorem setS_buttonInputs (s : State) (v : Byte) : (s.setS v).buttonInputs = s.buttonInputs := rfl
@[simp] theorem setS_lastFrame (s : State) (v : Byte) : (s.setS v).lastFrame = s.lastFrame := rfl

/-! ## `setPc` -/

@[simp] theorem setPc_a (s : State) (v : Word) : (s.setPc v).cpu.a = s.cpu.a := rfl
@[simp] theorem setPc_x (s : State) (v : Word) : (s.setPc v).cpu.x = s.cpu.x := rfl
@[simp] theorem setPc_y (s : State) (v : Word) : (s.setPc v).cpu.y = s.cpu.y := rfl
@[simp] theorem setPc_s (s : State) (v : Word) : (s.setPc v).cpu.s = s.cpu.s := rfl
@[simp] theorem setPc_pc (s : State) (v : Word) : (s.setPc v).cpu.pc = v := rfl
@[simp] theorem setPc_p (s : State) (v : Word) : (s.setPc v).cpu.p = s.cpu.p := rfl
@[simp] theorem setPc_irqPending (s : State) (v : Word) : (s.setPc v).cpu.irqPending = s.cpu.irqPending := rfl
@[simp] theorem setPc_nmiPending (s : State) (v : Word) : (s.setPc v).cpu.nmiPending = s.cpu.nmiPending := rfl
@[simp] theorem setPc_nmiDelay (s : State) (v : Word) : (s.setPc v).cpu.nmiDelay = s.cpu.nmiDelay := rfl
@[simp] theorem setPc_idle (s : State) (v : Word) : (s.setPc v).cpu.idle = s.cpu.idle := rfl
@[simp] theorem setPc_cycles (s : State) (v : Word) : (s.setPc v).cpu.cycles = s.cpu.cycles := rfl
@[simp] theorem setPc_bus (s : State) (v : Word) : (s.setPc v).bus = s.bus := rfl
@[simp] theorem setPc_ppu (s : State) (v : Word) : (s.setPc v).ppu = s.ppu := rfl
@[simp] theorem setPc_cart (s : State) (v : Word) : (s.setPc v).cart = s.cart := rfl
@[simp] theorem setPc_fault (s : State) (v : Word) : (s.setPc v).fault = s.fault := rfl
@[simp] theorem setPc_unofficialExtras (s : State) (v : Word) : (s.setPc v).unofficialExtras = s.unofficialExtras := rfl
@[simp] theorem setPc_draws (s : State) (v : Word) : (s.setPc v).draws = s.draws := rfl
@[simp] theorem setPc_buttonInputs (s : State) (v : Word) : (s.setPc v).buttonInputs = s.buttonInputs := rfl
@[simp] theorem setPc_lastFrame (s : State) (v : Word) : (s.setPc v).lastFrame = s.lastFrame := rfl

/-! ## `setP` -/

@[simp] theorem setP_a (s : State) (v : Flags) : (s.setP v).cpu.a = s.cpu.a := rfl
@[simp] theorem setP_x (s : State) (v : Flags) : (s.setP v).cpu.x = s.cpu.x := rfl
@[simp] theorem setP_y (s : State) (v : Flags) : (s.setP v).cpu.y = s.cpu.y := rfl
@[simp] theorem setP_s (s : State) (v : Flags) : (s.setP v).cpu.s = s.cpu.s := rfl
@[simp] theorem setP_pc (s : State) (v : Flags) : (s.setP v).cpu.pc = s.cpu.pc := rfl
@[simp] theorem setP_p (s : State) (v : Flags) : (s.setP v).cpu.p = v := rfl
@[simp] theorem setP_irqPending (s : State) (v : Flags) : (s.setP v).cpu.irqPending = s.cpu.irqPending := rfl
@[simp] theorem setP_nmiPending (s : State) (v : Flags) : (s.setP v).cpu.nmiPending = s.cpu.nmiPending := rfl
@[simp] theorem setP_nmiDelay (s : State) (v : Flags) : (s.setP v).cpu.nmiDelay = s.cpu.nmiDelay := rfl
@[simp] theorem setP_idle (s : State) (v : Flags) : (s.setP v).cpu.idle = s.cpu.idle := rfl
@[simp] theorem setP_cycles (s : State) (v : Flags) : (s.setP v).cpu.cycles = s.cpu.cycles := rfl
@[simp] theorem setP_bus (s : State) (v : Flags) : (s.setP v).bus = s.bus := rfl
@[simp] theorem setP_ppu (s : State) (v : Flags) : (s.setP v).ppu = s.ppu := rfl
@[simp] theorem setP_cart (s : State) (v : Flags) : (s.setP v).cart = s.cart := rfl
@[simp] theorem setP_fault (s : State) (v : Flags) : (s.setP v).fault = s.fault := rfl
@[simp] theorem setP_unofficialExtras (s : State) (v : Flags) : (s.setP v).unofficialExtras = s.unofficialExtras := rfl
@[simp] theorem setP_draws (s : State) (v : Flags) : (s.setP v).draws = s.draws := rfl
@[simp] theorem setP_buttonInputs (s : State) (v : Flags) : (s.setP v).buttonInputs = s.buttonInputs := rfl
@[simp] theorem setP_lastFrame (s : State) (v : Flags) : (s.setP v).lastFrame = s.lastFrame := rfl

/-! ## `charge` -/

@[simp] theorem charge_a (s : State) (v : Nat) : (s.charge v).cpu.a = s.cpu.a := rfl
@[simp] theorem charge_x (s : State) (v : Nat) : (s.charge v).cpu.x = s.cpu.x := rfl
@[simp] theorem charge_y (s : State) (v : Nat) : (s.charge v).cpu.y = s.cpu.y := rfl
@[simp] theorem charge_s (s : State) (v : Nat) : (s.charge v).cpu.s = s.cpu.s := rfl
@[simp] theorem charge_pc (s : State) (v : Nat) : (s.charge v).cpu.pc = s.cpu.pc := rfl
@[simp] theorem charge_p (s : State) (v : Nat) : (s.charge v).cpu.p = s.cpu.p := rfl
@[simp] theorem charge_irqPending (s : State) (v : Nat) : (s.charge v).cpu.irqPending = s.cpu.irqPending := rfl
@[simp] theorem charge_nmiPending (s : State) (v : Nat) : (s.charge v).cpu.nmiPending = s.cpu.nmiPending := rfl
@[simp] theorem charge_nmiDelay (s : State) (v : Nat) : (s.charge v).cpu.nmiDelay = s.cpu.nmiDelay := rfl
@[simp] theorem charge_idle (s : State) (v : Nat) : (s.charge v).cpu.idle = s.cpu.idle := rfl
@[simp] theorem charge_cycles (s : State) (v : Nat) : (s.charge v).cpu.cycles = s.cpu.cycles + v := rfl
@[simp] theorem charge_bus (s : State) (v : Nat) : (s.charge v).bus = s.bus := rfl
@[simp] theorem charge_ppu (s : State) (v : Nat) : (s.charge v).ppu = s.ppu := rfl
@[simp] theorem charge_cart (s : State) (v : Nat) : (s.charge v).cart = s.cart := rfl
@[simp] theorem charge_fault (s : State) (v : Nat) : (s.charge v).fault = s.fault := rfl
@[simp] theorem charge_unofficialExtras (s : State) (v : Nat) : (s.charge v).unofficialExtras = s.unofficialExtras := rfl
@[simp] theorem charge_draws (s : State) (v : Nat) : (s.charge v).draws = s.draws := rfl
@[simp] theorem charge_buttonInputs (s : State) (v : Nat) : (s.charge v).buttonInputs = s.buttonInputs := rfl
@[simp] theorem charge_lastFrame (s : State) (v : Nat) : (s.charge v).lastFrame = s.lastFrame := rfl

/-! ## `setZN` -/

@[simp] theorem setZN_a (s : State) (v : Byte) : (s.setZN v).cpu.a = s.cpu.a := rfl
@[simp] theorem setZN_x (s : State) (v : Byte) : (s.setZN v).cpu.x = s.cpu.x := rfl
@[simp] theorem setZN_y (s : State) (v : Byte) : (s.setZN v).cpu.y = s.cpu.y := rfl
@[simp] theorem setZN_s (s : State) (v : Byte) : (s.setZN v).cpu.s = s.cpu.s := rfl
@[simp] theorem setZN_pc (s : State) (v : Byte) : (s.setZN v).cpu.pc = s.cpu.pc := rfl
@[simp] theorem setZN_p (s : State) (v : Byte) : (s.setZN v).cpu.p = s.cpu.p.withZN v := rfl
@[simp] theorem setZN_irqPending (s : State) (v : Byte) : (s.setZN v).cpu.irqPending = s.cpu.irqPending := rfl
@[simp] theorem setZN_nmiPending (s : State) (v : Byte) : (s.setZN v).cpu.nmiPending = s.cpu.nmiPending := rfl
@[simp] theorem setZN_nmiDelay (s : State) (v : Byte) : (s.setZN v).cpu.nmiDelay = s.cpu.nmiDelay := rfl
@[simp] theorem setZN_idle (s : State) (v : Byte) : (s.setZN v).cpu.idle = s.cpu.idle := rfl
@[simp] theorem setZN_cycles (s : State) (v : Byte) : (s.setZN v).cpu.cycles = s.cpu.cycles := rfl
@[simp] theorem setZN_bus (s : State) (v : Byte) : (s.setZN v).bus = s.bus := rfl
@[simp] theorem setZN_ppu (s : State) (v : Byte) : (s.setZN v).ppu = s.ppu := rfl
@[simp] theorem setZN_cart (s : State) (v : Byte) : (s.setZN v).cart = s.cart := rfl
@[simp] theorem setZN_fault (s : State) (v : Byte) : (s.setZN v).fault = s.fault := rfl
@[simp] theorem setZN_unofficialExtras (s : State) (v : Byte) : (s.setZN v).unofficialExtras = s.unofficialExtras := rfl
@[simp] theorem setZN_draws (s : State) (v : Byte) : (s.setZN v).draws = s.draws := rfl
@[simp] theorem setZN_buttonInputs (s : State) (v : Byte) : (s.setZN v).buttonInputs = s.buttonInputs := rfl
@[simp] theorem setZN_lastFrame (s : State) (v : Byte) : (s.setZN v).lastFrame = s.lastFrame := rfl

/-! ## `setC` -/

@[simp] theorem setC_a (s : State) (v : Bool) : (s.setC v).cpu.a = s.cpu.a := rfl
@[simp] theorem setC_x (s : State) (v : Bool) : (s.setC v).cpu.x = s.cpu.x := rfl
@[simp] theorem setC_y (s : State) (v : Bool) : (s.setC v).cpu.y = s.cpu.y := rfl
@[simp] theorem setC_s (s : State) (v : Bool) : (s.setC v).cpu.s = s.cpu.s := rfl
@[simp] theorem setC_pc (s : State) (v : Bool) : (s.setC v).cpu.pc = s.cpu.pc := rfl
@[simp] theorem setC_p (s : State) (v : Bool) : (s.setC v).cpu.p = { s.cpu.p with c := v } := rfl
@[simp] theorem setC_irqPending (s : State) (v : Bool) : (s.setC v).cpu.irqPending = s.cpu.irqPending := rfl
@[simp] theorem setC_nmiPending (s : State) (v : Bool) : (s.setC v).cpu.nmiPending = s.cpu.nmiPending := rfl
@[simp] theorem setC_nmiDelay (s : State) (v : Bool) : (s.setC v).cpu.nmiDelay = s.cpu.nmiDelay := rfl
@[simp] theorem setC_idle (s : State) (v : Bool) : (s.setC v).cpu.idle = s.cpu.idle := rfl
@[simp] theorem setC_cycles (s : State) (v : Bool) : (s.setC v).cpu.cycles = s.cpu.cycles := rfl
@[simp] theorem setC_bus (s : State) (v : Bool) : (s.setC v).bus = s.bus := rfl
@[simp] theorem setC_ppu (s : State) (v : Bool) : (s.setC v).ppu = s.ppu := rfl
@[simp] theorem setC_cart (s : State) (v : Bool) : (s.setC v).cart = s.cart := rfl
@[simp] theorem setC_fault (s : State) (v : Bool) : (s.setC v).fault = s.fault := rfl
@[simp] theorem setC_unofficialExtras (s : State) (v : Bool) : (s.setC v).unofficialExtras = s.unofficialExtras := rfl
@[simp] theorem setC_draws (s : State) (v : Bool) : (s.setC v).draws = s.draws := rfl
@[simp] theorem setC_buttonInputs (s : State) (v : Bool) : (s.setC v).buttonInputs = s.buttonInputs := rfl
@[simp] theorem setC_lastFrame (s : State) (v : Bool) : (s.setC v).lastFrame = s.lastFrame := rfl

/-! ## `setPpu` -/

@[simp] theorem setPpu_cpu (s : State) (v : Ppu) : (s.setPpu v).cpu = s.cpu := rfl
@[simp] theorem setPpu_bus (s : State) (v : Ppu) : (s.setPpu v).bus = s.bus := rfl
@[simp] theorem setPpu_ppu (s : State) (v : Ppu) : (s.setPpu v).ppu = v := rfl
@[simp] theorem setPpu_cart (s : State) (v : Ppu) : (s.setPpu v).cart = s.cart := rfl
@[simp] theorem setPpu_fault (s : State) (v : Ppu) : (s.setPpu v).fault = s.fault := rfl
@[simp] theorem setPpu_unofficialExtras (s : State) (v : Ppu) : (s.setPpu v).unofficialExtras = s.unofficialExtras := rfl
@[simp] theorem setPpu_draws (s : State) (v : Ppu) : (s.setPpu v).draws = s.draws := rfl
@[simp] theorem setPpu_buttonInputs (s : State) (v : Ppu) : (s.setPpu v).buttonInputs = s.buttonInputs := rfl
@[simp] theorem setPpu_lastFrame (s : State) (v : Ppu) : (s.setPpu v).lastFrame = s.lastFrame := rfl

/-! ## `setCart` -/

@[simp] theorem setCart_cpu (s : State) (v : Cart) : (s.setCart v).cpu = s.cpu := rfl
@[simp] theorem setCart_bus (s : State) (v : Cart) : (s.setCart v).bus = s.bus := rfl
@[simp] theorem setCart_ppu (s : State) (v : Cart) : (s.setCart v).ppu = s.ppu := rfl
@[simp] theorem setCart_cart (s : State) (v : Cart) : (s.setCart v).cart = v := rfl
@[simp] theorem setCart_fault (s : State) (v : Cart) : (s.setCart v).fault = s.fault := rfl
@[simp] theorem setCart_unofficialExtras (s : State) (v : Cart) : (s.setCart v).unofficialExtras = s.unofficialExtras := rfl
@[simp] theorem setCart_draws (s : State) (v : Cart) : (s.setCart v).draws = s.draws := rfl
@[simp] theorem setCart_buttonInputs (s : State) (v : Cart) : (s.setCart v).buttonInputs = s.buttonInputs := rfl
@[simp] theorem setCart_lastFrame (s : State) (v : Cart) : (s.setCart v).lastFrame = s.lastFrame := rfl

/-! ## `setRam` -/

@[simp] theorem setRam_cpu (s : State) (v : Memory) : (s.setRam v).cpu = s.cpu := rfl
@[simp] theorem setRam_bus (s : State) (v : Memory) : (s.setRam v).bus = { s.bus with ram := v } := rfl
@[simp] theorem setRam_ppu (s : State) (v : Memory) : (s.setRam v).ppu = s.ppu := rfl
@[simp] theorem setRam_cart (s : State) (v : Memory) : (s.setRam v).cart = s.cart := rfl
@[simp] theorem setRam_fault (s : State) (v : Memory) : (s.setRam v).fault = s.fault := rfl
@[simp] theorem setRam_unofficialExtras (s : State) (v : Memory) : (s.setRam v).unofficialExtras = s.unofficialExtras := rfl
@[simp] theorem setRam_draws (s : State) (v : Memory) : (s.setRam v).draws = s.draws := rfl
@[simp] theorem setRam_buttonInputs (s : State) (v : Memory) : (s.setRam v).buttonInputs = s.buttonInputs := rfl
@[simp] theorem setRam_lastFrame (s : State) (v : Memory) : (s.setRam v).lastFrame = s.lastFrame := rfl

/-! ## `drawn` -/

@[simp] theorem drawn_cpu (s : State) : s.drawn.cpu = s.cpu := rfl
@[simp] theorem drawn_bus (s : State) : s.drawn.bus = s.bus := rfl
@[simp] theorem drawn_ppu (s : State) : s.drawn.ppu = s.ppu := rfl
@[simp] theorem drawn_cart (s : State) : s.drawn.cart = s.cart := rfl
@[simp] theorem drawn_fault (s : State) : s.drawn.fault = s.fault := rfl
@[simp] theorem drawn_unofficialExtras (s : State) : s.drawn.unofficialExtras = s.unofficialExtras := rfl
@[simp] theorem drawn_draws (s : State) : s.drawn.draws = s.draws + 1 := rfl
@[simp] theorem drawn_buttonInputs (s : State) : s.drawn.buttonInputs = s.buttonInputs := rfl
@[simp] theorem drawn_lastFrame (s : State) : s.drawn.lastFrame = s.lastFrame := rfl

end Sys2Proof.Machine.State
end

