-- ==== Sys2Proof/Laws/Bus.lean ====
section
/-! SUPPORT. Laws of the CPU bus: what a run can do, said once (`Post`); what a read changes; when an access succeeds; reads,
pushes and pulls of internal RAM. -/

namespace Sys2Proof.Machine

open Sys2Proof

/-! ## Runs -/

/-- What holds of the outcome of a run: `P` of its value, or `Q` of its fault. -/
inductive Post {α : Type} : Run α → (α → Prop) → (Fault → Prop) → Prop where
  | ok {P : α → Prop} {Q : Fault → Prop} {a : α} (h : P a) : Post (.ok a) P Q
  | error {P : α → Prop} {Q : Fault → Prop} {f : Fault} (h : Q f) : Post (.error f) P Q

/-- One run after another. -/
theorem Post.bind {α β : Type} {P : α → Prop} {P' : β → Prop} {Q : Fault → Prop} {r : Run α} {k : α → Run β}
    (h : Post r P Q) (hk : ∀ a, P a → Post (k a) P' Q) : Post (r >>= k) P' Q := by
  cases h with
  | ok h => exact hk _ h
  | error h => exact Post.error h

/-- A run and a pure end. -/
theorem Post.map {α β : Type} {P : α → Prop} {P' : β → Prop} {Q : Fault → Prop} {r : Run α} {g : α → β}
    (h : Post r P Q) (hg : ∀ a, P a → P' (g a)) : Post (r >>= fun a => pure (g a)) P' Q :=
  Post.bind h fun a ha => Post.ok (hg a ha)

theorem Post.mono {α : Type} {P P' : α → Prop} {Q Q' : Fault → Prop} {r : Run α}
    (h : Post r P Q) (hp : ∀ a, P a → P' a) (hq : ∀ f, Q f → Q' f) : Post r P' Q' := by
  cases h with
  | ok h => exact .ok (hp _ h)
  | error h => exact .error (hq _ h)

theorem Post.of_ok {α : Type} {P : α → Prop} {Q : Fault → Prop} {r : Run α} {a : α} (h : Post r P Q) (e : r = .ok a) :
    P a := by
  subst e
  cases h
  assumption

theorem Post.of_error {α : Type} {P : α → Prop} {Q : Fault → Prop} {r : Run α} {f : Fault} (h : Post r P Q)
    (e : r = .error f) : Q f := by
  subst e
  cases h
  assumption

/-- A run that goes on, taken apart. -/
theorem bind_ok {α β : Type} {r : Run α} {k : α → Run β} {b : β} (h : r >>= k = .ok b) :
    ∃ a, r = .ok a ∧ k a = .ok b := by
  cases r with
  | ok a => exact ⟨a, rfl, h⟩
  | error f => cases h

@[simp] theorem ok_bind {α β : Type} (a : α) (k : α → Run β) : ((.ok a : Run α) >>= k) = k a := rfl

@[simp] theorem error_bind {α β : Type} (f : Fault) (k : α → Run β) : ((.error f : Run α) >>= k) = .error f := rfl

@[simp] theorem pure_ok {α : Type} (a : α) : (pure a : Run α) = .ok a := rfl

/-! ## Faults -/

/-- The stopped state of a raised fault is the raising state with the record. -/
@[simp] theorem raise_stopped (s : State) (r : FaultRecord) : (s.raise r).stopped = { s with fault := some r } := by
  cases r <;> rfl

@[simp] theorem raise_record (s : State) (r : FaultRecord) : (s.raise r).record = r := by
  cases r <;> rfl

/-! ## Interrupt lines -/

/-- `NmiChange()` when the line does not rise: only `nmiLine` is written (R550). -/
theorem nmiChange_no_edge {s : State} (h : (s.ppu.vblank && s.ppu.ctrl.nmiEnable) = false) :
    s.nmiChange = s.setPpu { s.ppu with nmiLine := false } := by
  simp [State.nmiChange, h]

/-! ## Bus reads -/

/-- What no bus read changes: the CPU, the cartridge, RAM, the latched buttons, and the PPU's arrays, raster and rendering state. -/
structure ReadFrame (s t : State) : Prop where
  cpu : t.cpu = s.cpu
  cart : t.cart = s.cart
  ram : t.bus.ram = s.bus.ram
  buttons : t.bus.ctrlButtons = s.bus.ctrlButtons
  fault : t.fault = s.fault
  extras : t.unofficialExtras = s.unofficialExtras
  inputs : t.buttonInputs = s.buttonInputs
  frame : t.lastFrame = s.lastFrame
  oam : t.ppu.oam = s.ppu.oam
  oamAddr : t.ppu.oamAddr = s.ppu.oamAddr
  vram : t.ppu.vram = s.ppu.vram
  palette : t.ppu.palette = s.ppu.palette
  framebuffer : t.ppu.framebuffer = s.ppu.framebuffer
  scanline : t.ppu.scanline = s.ppu.scanline
  cycle : t.ppu.cycle = s.ppu.cycle
  parity : t.ppu.f = s.ppu.f
  ctrl : t.ppu.ctrl = s.ppu.ctrl
  mask : t.ppu.mask = s.ppu.mask

theorem ReadFrame.refl (s : State) : ReadFrame s s := by
  constructor <;> rfl

theorem ReadFrame.trans {s t u : State} (h1 : ReadFrame s t) (h2 : ReadFrame t u) : ReadFrame s u := by
  constructor
  · exact h2.cpu.trans h1.cpu
  · exact h2.cart.trans h1.cart
  · exact h2.ram.trans h1.ram
  · exact h2.buttons.trans h1.buttons
  · exact h2.fault.trans h1.fault
  · exact h2.extras.trans h1.extras
  · exact h2.inputs.trans h1.inputs
  · exact h2.frame.trans h1.frame
  · exact h2.oam.trans h1.oam
  · exact h2.oamAddr.trans h1.oamAddr
  · exact h2.vram.trans h1.vram
  · exact h2.palette.trans h1.palette
  · exact h2.framebuffer.trans h1.framebuffer
  · exact h2.scanline.trans h1.scanline
  · exact h2.cycle.trans h1.cycle
  · exact h2.parity.trans h1.parity
  · exact h2.ctrl.trans h1.ctrl
  · exact h2.mask.trans h1.mask

/-- Reading `$2002` (R509), with `NmiChange()` carried out. -/
theorem readPpuStatus_eq (s : State) :
    s.readPpuStatus = (s.ppu.status, s.setPpu { s.ppu with vblank := false, nmiLine := false, w := false }) := by
  simp [State.readPpuStatus, nmiChange_no_edge, State.setPpu]

theorem ppuRegRead_frame (s : State) (r : Nat) : ReadFrame s (s.ppuRegRead r).2 := by
  unfold State.ppuRegRead
  split
  · rw [readPpuStatus_eq]
    constructor <;> rfl
  · exact ReadFrame.refl s
  · unfold State.readPpuData
    simp only []
    split <;> (constructor <;> rfl)
  · constructor <;> rfl

theorem controllerRead_frame (s : State) : ReadFrame s s.controllerRead.2 := by
  unfold State.controllerRead
  split <;> (constructor <;> rfl)

/-- What a bus read can do: it changes no more than a device's read side effects, or it raises `InvalidAddress` (R81, R97). -/
theorem memRead_post (a : Word) (s : State) :
    Post (memRead a s) (fun p => ReadFrame s p.2) (fun f => f = s.raise (.invalidAddress a .read)) := by
  unfold memRead
  split
  · exact .ok (ReadFrame.refl s)
  · split
    · exact .ok (ppuRegRead_frame s _)
    · split
      · exact .ok (controllerRead_frame s)
      · split
        · exact .ok (ReadFrame.refl s)
        · split
          · exact .ok (ReadFrame.refl s)
          · exact .error rfl

theorem memRead_frame {a : Word} {s t : State} {b : Byte} (h : memRead a s = .ok (b, t)) : ReadFrame s t :=
  (memRead_post a s).of_ok h

theorem memRead_error {a : Word} {s : State} {f : Fault} (h : memRead a s = .error f) :
    f = s.raise (.invalidAddress a .read) := (memRead_post a s).of_error h

theorem ok_pair {α β : Type} (p : α × β) : ∃ a b, (.ok p : Run (α × β)) = .ok (a, b) := ⟨p.1, p.2, rfl⟩

/-- A readable address can be read in every state. -/
theorem memRead_ok {a : Word} (s : State) (h : readable a = true) : ∃ b t, memRead a s = .ok (b, t) := by
  unfold memRead
  simp only [readable, Bool.or_eq_true, decide_eq_true_eq] at h
  split
  · exact ⟨_, _, rfl⟩
  · split
    · exact ok_pair _
    · split
      · exact ok_pair _
      · split
        · exact ⟨_, _, rfl⟩
        · next h1 h2 h3 h4 =>
          have h6 : ¬ a < 0x6000 := by
            clear h1 h2 h3
            rcases h with h | h
            · exact absurd h h4
            · bv_omega
          simp only [Cart.cpuRead, h6, if_false]
          split
          · exact ⟨_, _, rfl⟩
          · next hn => split at hn <;> cases hn

/-- A read of internal RAM has no side effect (R83). -/
theorem memRead_ram {a : Word} (s : State) (h : a < 0x2000) : memRead a s = .ok (s.bus.ram.read (ramIndex a), s) := by
  unfold memRead
  exact if_pos h

/-- A write to internal RAM (R83). -/
theorem memWrite_ram {a : Word} (v : Byte) (s : State) (h : a < 0x2000) :
    memWrite a v s = .ok (s.setRam (s.bus.ram.write (ramIndex a) v)) := by
  unfold memWrite
  exact if_pos h

theorem wordOf_toNat (h l : Byte) : (wordOf h l).toNat = 256 * h.toNat + l.toNat := by
  unfold wordOf
  rw [BitVec.toNat_append, Nat.shiftLeft_eq, Nat.mul_comm, ← Nat.two_pow_add_eq_or_of_lt l.isLt]

theorem zext16_lt (b : Byte) : zext16 b < 0x2000 := by
  unfold zext16
  bv_omega

theorem stackAddr_toNat (b : Byte) : (stackAddr b).toNat = 256 + b.toNat := by
  unfold stackAddr
  rw [wordOf_toNat]
  rfl

theorem stackAddr_lt (b : Byte) : stackAddr b < 0x2000 := by
  have := stackAddr_toNat b
  bv_omega

/-- A read of storage is the byte that `peek` names, and changes nothing (R97). -/
theorem memRead_peek {a : Word} {s : State} {b : Byte} (h : peek a s = some b) : memRead a s = .ok (b, s) := by
  unfold peek at h
  by_cases h1 : a < 0x2000
  · rw [if_pos h1, Option.some.injEq] at h
    rw [memRead_ram s h1, h]
  · rw [if_neg h1] at h
    split at h
    · cases h
    · next h2 =>
      have h3 : ¬ a < 0x4000 := by bv_omega
      have h4 : a ≠ 0x4016 := by bv_omega
      unfold memRead
      rw [if_neg h1, if_neg h3, if_neg h4, if_neg h2, h]

/-! ## The stack -/

/-- A push writes internal RAM and moves `S` (R220). -/
theorem push_eq (v : Byte) (s : State) :
    push v s = .ok ((s.setRam (s.bus.ram.write (ramIndex (stackAddr s.cpu.s)) v)).setS (s.cpu.s - 1)) := by
  unfold push
  rw [memWrite_ram v s (stackAddr_lt _)]
  rfl

/-- A pull moves `S` and reads internal RAM (R220). -/
theorem pull_eq (s : State) :
    pull s = .ok (s.bus.ram.read (ramIndex (stackAddr (s.cpu.s + 1))), s.setS (s.cpu.s + 1)) := by
  unfold pull
  exact memRead_ram _ (stackAddr_lt _)

end Sys2Proof.Machine
end

