-- ==== Sys2Proof/Laws/Invariant.lean ====
section
/-! SUPPORT. The parts of a step keep the invariant, in the state they end in or the state they stop in. -/

namespace Sys2Proof.Machine

open Sys2Proof

/-- A run ends, or stops, in a state that meets the invariant. -/
abbrev Keeps (r : Run State) : Prop := Post r State.Inv (fun f => f.stopped.Inv)

/-- A run with a value ends, or stops, in a state that meets the invariant. -/
abbrev KeepsVal {α : Type} (r : Run (α × State)) : Prop := Post r (fun p => p.2.Inv) (fun f => f.stopped.Inv)

theorem inv_raise {s : State} (h : s.Inv) (r : FaultRecord) : (s.raise r).stopped.Inv := by
  rw [raise_stopped]
  exact h

/-- Flags that leave `P.B` alone. -/
theorem inv_setP {s : State} (h : s.Inv) {p : Flags} (hb : p.b = s.cpu.p.b) : (s.setP p).Inv :=
  ⟨⟨hb.trans h.1.1, h.1.2⟩, h.2⟩

theorem inv_setZN {s : State} (h : s.Inv) (v : Byte) : (s.setZN v).Inv := inv_setP h rfl

theorem inv_setC {s : State} (h : s.Inv) (c : Bool) : (s.setC c).Inv := inv_setP h rfl

theorem inv_addWithCarry {s : State} (h : s.Inv) (m : Byte) : (s.addWithCarry m).Inv := h

theorem inv_compare {s : State} (h : s.Inv) (r m : Byte) : (s.compare r m).Inv := inv_setZN (inv_setC h _) _

theorem inv_setRam {s : State} (h : s.Inv) {m : Memory} (hm : m.wf 2048 = true) : (s.setRam m).Inv :=
  ⟨h.1, ⟨hm, h.2.1.2⟩, h.2.2⟩

theorem inv_setCart {s : State} (h : s.Inv) {k : Cart} (hk : k.Inv) : (s.setCart k).Inv := ⟨h.1, h.2.1, h.2.2.1, hk⟩

/-! ## Interrupt lines -/

theorem inv_triggerIrq {s : State} (h : s.Inv) : s.triggerIrq.Inv := by
  unfold State.triggerIrq
  split <;> exact h

theorem inv_triggerNmi {s : State} (h : s.Inv) : s.triggerNmi.Inv :=
  ⟨⟨h.1.1, Nat.le_refl _, Or.inl rfl⟩, h.2⟩

/-- The edge detector makes `nmiLine` right again after `vblank` or `ctrlNmiEnable` changed (R550). -/
theorem inv_nmiChange {s : State} (hc : s.cpu.Inv) (hb : s.bus.Inv)
    (hu : ({ s.ppu with nmiLine := s.ppu.vblank && s.ppu.ctrl.nmiEnable } : Ppu).Inv) (hk : s.cart.Inv) :
    s.nmiChange.Inv := by
  unfold State.nmiChange
  simp only []
  split
  · exact ⟨⟨hc.1, Nat.le_refl _, Or.inl rfl⟩, hb, hu, hk⟩
  · exact ⟨hc, hb, hu, hk⟩

/-! ## Bus reads -/

theorem keeps_memRead {s : State} (h : s.Inv) (a : Word) : KeepsVal (memRead a s) := by
  unfold memRead
  split
  · exact .ok h
  · split
    · unfold State.ppuRegRead
      split
      · rw [readPpuStatus_eq]
        exact .ok ⟨h.1, h.2.1, ⟨h.2.2.1.1, h.2.2.1.2.1, rfl, h.2.2.1.2.2.2⟩, h.2.2.2⟩
      · exact .ok h
      · unfold State.readPpuData
        simp only []
        split <;> exact .ok h
      · exact .ok h
    · split
      · unfold State.controllerRead
        split
        · next hlt => exact .ok ⟨h.1, ⟨h.2.1.1, hlt⟩, h.2.2⟩
        · exact .ok h
      · split
        · exact .ok h
        · split
          · exact .ok h
          · exact .error (inv_raise h _)

theorem keeps_memRead16 {s : State} (h : s.Inv) (a : Word) : KeepsVal (memRead16 a s) :=
  Post.bind (keeps_memRead h a) fun _ hp => Post.bind (keeps_memRead hp (a + 1)) fun _ hq => .ok hq

/-! ## Bus writes -/

theorem keeps_ppuWrite {s : State} (h : s.Inv) (addr : Nat) (v : Byte) : Keeps (s.ppuWrite addr v) := by
  unfold State.ppuWrite
  simp only []
  split
  · next ha =>
    split
    · next k hk => exact .ok (inv_setCart h (chrWrite_inv hk ha h.2.2.2))
    · exact .error (inv_raise h _)
  · obtain ⟨hc, hb, ⟨h1, h2, h3, h4, h5, h6, h7⟩, hk⟩ := h
    split
    · exact .ok ⟨hc, hb, ⟨h1, h2, h3, h4, Memory.wf_write v h5 (vramIndex_lt _ _), h6, h7⟩, hk⟩
    · exact .ok ⟨hc, hb, ⟨h1, h2, h3, h4, h5, Memory.wf_write v h6 (paletteIndex_lt _), h7⟩, hk⟩

theorem inv_writeOamData {s : State} (h : s.Inv) (d : Byte) : (s.setPpu (s.ppu.writeOamData d)).Inv := by
  obtain ⟨hc, hb, ⟨h1, h2, h3, h4, h567⟩, hk⟩ := h
  exact ⟨hc, hb, ⟨h1, h2, h3, Memory.wf_write d h4 s.ppu.oamAddr.isLt, h567⟩, hk⟩

theorem keeps_ppuRegWrite {s : State} (h : s.Inv) (r : Nat) (d : Byte) : Keeps (s.ppuRegWrite r d) := by
  unfold State.ppuRegWrite
  simp only []
  have hs : (s.setPpu { s.ppu with lastWrite := d }).Inv := h
  generalize s.setPpu { s.ppu with lastWrite := d } = s at hs
  split
  · refine .ok ?_
    exact inv_nmiChange (s := s.setPpu _) hs.1 hs.2.1
      ⟨hs.2.2.1.1, hs.2.2.1.2.1, rfl, hs.2.2.1.2.2.2⟩ hs.2.2.2
  · exact .ok hs
  · exact .ok hs
  · exact .ok hs
  · exact .ok (inv_writeOamData hs d)
  · refine .ok ?_
    unfold Ppu.writeScroll
    split <;> exact hs
  · refine .ok ?_
    unfold Ppu.writeAddr
    split <;> exact hs
  · exact Post.bind (keeps_ppuWrite hs _ _) fun t ht => .ok ht

theorem keeps_dmaCopy (page : Byte) : ∀ (n i : Nat) {s : State}, s.Inv → Keeps (dmaCopy page n i s) := by
  intro n
  induction n with
  | zero => intro i s h; exact .ok h
  | succ n ih =>
    intro i s h
    exact Post.bind (keeps_memRead h _) fun p hp => ih (i + 1) (inv_writeOamData hp p.1)

theorem keeps_oamDma {s : State} (h : s.Inv) (page : Byte) : Keeps (oamDma page s) :=
  Post.bind (keeps_dmaCopy page 256 0 h) fun _ ht => .ok ht

theorem inv_controllerWrite {s : State} (h : s.Inv) (v : Byte) : (s.controllerWrite v).Inv := by
  unfold State.controllerWrite State.hostButtons
  split
  · split <;> exact ⟨h.1, ⟨h.2.1.1, Nat.zero_le _⟩, h.2.2⟩
  · exact h

theorem keeps_memWrite {s : State} (h : s.Inv) (a : Word) (v : Byte) : Keeps (memWrite a v s) := by
  unfold memWrite
  split
  · exact .ok (inv_setRam h (Memory.wf_write v h.2.1.1 (Nat.mod_lt _ (by omega))))
  · split
    · exact keeps_ppuRegWrite h (ppuReg a) v
    · split
      · exact keeps_oamDma h v
      · split
        · exact .ok (inv_controllerWrite h v)
        · split
          · exact .ok h
          · split
            · next k hk => exact .ok (inv_setCart h (cpuWrite_inv hk h.2.2.2))
            · exact .error (inv_raise h _)

/-! ## The stack, interrupts -/

theorem keeps_push {s : State} (h : s.Inv) (v : Byte) : Keeps (push v s) :=
  Post.bind (keeps_memWrite h _ v) fun _ ht => .ok ht

theorem keeps_pull {s : State} (h : s.Inv) : KeepsVal (pull s) := by
  unfold pull
  exact keeps_memRead (s := s.setS (s.cpu.s + 1)) h (stackAddr (s.setS (s.cpu.s + 1)).cpu.s)

theorem keeps_pushWord {s : State} (h : s.Inv) (w : Word) : Keeps (pushWord w s) :=
  Post.bind (keeps_push h _) fun _ ht => keeps_push ht _

theorem keeps_pullWord {s : State} (h : s.Inv) : KeepsVal (pullWord s) :=
  Post.bind (keeps_pull h) fun _ hp => Post.bind (keeps_pull hp) fun _ hq => .ok hq

theorem keeps_enterInterrupt {s : State} (h : s.Inv) (b4 : Bool) (v : Word) : Keeps (enterInterrupt b4 v s) := by
  unfold enterInterrupt
  refine Post.bind (keeps_pushWord h _) fun _ h1 => Post.bind (keeps_push h1 _) fun t h2 => ?_
  exact Post.bind (keeps_memRead16 (s := t.setP { t.cpu.p with i := true }) (inv_setP h2 rfl) v) fun _ h3 => .ok h3

theorem keeps_service {s : State} (h : s.Inv) (v : Word) : Keeps (service v s) :=
  Post.bind (keeps_enterInterrupt h false v) fun _ ht => .ok ht

theorem keeps_returnFromInterrupt {s : State} (h : s.Inv) : Keeps (returnFromInterrupt s) :=
  Post.bind (keeps_pull h) fun p hp =>
    Post.bind (keeps_pullWord (s := p.2.setP _) (inv_setP hp rfl)) fun _ hq => .ok hq

/-- Serving an interrupt leaves the pending bits and the delay alone. -/
theorem service_pending {v : Word} {s t : State} (h : service v s = .ok t) :
    t.cpu.nmiPending = s.cpu.nmiPending ∧ t.cpu.nmiDelay = s.cpu.nmiDelay ∧ t.cpu.irqPending = s.cpu.irqPending := by
  obtain ⟨s1, h1, h2⟩ := bind_ok h
  obtain ⟨s2, h3, h4⟩ := bind_ok h1
  obtain ⟨s3, h5, h6⟩ := bind_ok h4
  obtain ⟨⟨w, s4⟩, h7, h8⟩ := bind_ok h6
  obtain ⟨⟨l, s5⟩, h9, h10⟩ := bind_ok h7
  obtain ⟨⟨u, s6⟩, h11, h12⟩ := bind_ok h10
  have c5 := (memRead_frame h9).cpu
  have c6 := (memRead_frame h11).cpu
  obtain ⟨s7, h13, h14⟩ := bind_ok h3
  rw [push_eq] at h13 h14 h5
  cases h13
  cases h14
  cases h5
  cases h12
  cases h8
  cases h2
  simp only [State.charge_nmiPending, State.charge_nmiDelay, State.charge_irqPending, State.setPc_nmiPending,
    State.setPc_nmiDelay, State.setPc_irqPending, c6, c5]
  exact ⟨rfl, rfl, rfl⟩

theorem keeps_pollIrq {s : State} (h : s.Inv) : Keeps (pollIrq s) := by
  unfold pollIrq
  refine Post.bind (P := State.Inv) ?_ ?_
  · split
    · exact keeps_service h _
    · exact .ok h
  · intro t ht
    exact .ok ht

theorem keeps_pollNmi {s : State} (h : s.Inv) : Keeps (pollNmi s) := by
  unfold pollNmi
  split
  · next hn =>
    split
    · next hd =>
      obtain ⟨⟨h1, h2, h3⟩, h4⟩ := h
      exact .ok ⟨⟨h1, Nat.le_trans (Nat.sub_le _ 1) h2, Or.inl hn⟩, h4⟩
    · next hd =>
      have hk := keeps_service h nmiVector
      cases hs : service nmiVector s with
      | error f => exact .error (hk.of_error hs)
      | ok t =>
        have ht := hk.of_ok hs
        have hdel : t.cpu.nmiDelay = 0 := by
          rw [(service_pending hs).2.1]
          omega
        exact .ok ⟨⟨ht.1.1, ht.1.2.1, Or.inr hdel⟩, ht.2⟩
  · exact .ok h

theorem keeps_interruptPoll {s : State} (h : s.Inv) : Keeps (interruptPoll s) :=
  Post.bind (keeps_pollIrq h) fun _ ht => keeps_pollNmi ht

/-! ## Fetching -/

theorem keeps_readBytes : ∀ (n : Nat) (a : Word) {s : State}, s.Inv → KeepsVal (readBytes n a s) := by
  intro n
  induction n with
  | zero => intro a s h; exact .ok h
  | succ n ih =>
    intro a s h
    exact Post.bind (keeps_memRead h a) fun p hp => Post.bind (ih (a + 1) hp) fun _ hq => .ok hq

theorem keeps_fetch {s : State} (h : s.Inv) : KeepsVal (fetch s) := by
  unfold fetch
  refine Post.bind (keeps_memRead h s.cpu.pc) ?_
  rintro ⟨op, t⟩ ht
  simp only []
  split
  · refine Post.bind (keeps_readBytes _ _ ht) ?_
    rintro ⟨bs, u⟩ hu
    simp only []
    split
    · exact .ok hu
    · exact .error (inv_raise hu _)
  · exact .error (inv_raise ht _)

theorem keeps_pollAndFetch {s : State} (h : s.Inv) : KeepsVal (pollAndFetch s) :=
  Post.bind (keeps_interruptPoll h) fun _ ht => keeps_fetch ht

/-! ## Operands -/

theorem keeps_readPointer {s : State} (h : s.Inv) (p : Word) : KeepsVal (readPointer p s) :=
  Post.bind (keeps_memRead h p) fun _ hp => Post.bind (keeps_memRead hp _) fun _ hq => .ok hq

theorem keeps_resolve {s : State} (h : s.Inv) (o : Operand) : KeepsVal (resolve o s) := by
  unfold resolve
  split <;> first | exact .ok h | exact Post.bind (keeps_readPointer h _) fun _ hp => .ok hp

theorem keeps_readOperand {s : State} (h : s.Inv) (o : Operand) (r : Resolved) : KeepsVal (readOperand o r s) := by
  unfold readOperand
  split
  · exact .ok h
  · exact .ok h
  · exact keeps_memRead h _

theorem keeps_writeOperand {s : State} (h : s.Inv) (o : Operand) (r : Resolved) (v : Byte) :
    Keeps (writeOperand o r v s) := by
  unfold writeOperand
  split
  · exact .ok h
  · exact keeps_memWrite h _ v

/-- A handler keeps the invariant. -/
abbrev KeepsHandler (f : Handler) : Prop := ∀ o r s, State.Inv s → Keeps (f o r s)

/-- The outcome of an instruction, next or fault, meets the invariant; it is no refusal. -/
def KeepsOutcome : Host.Outcome State Fault Refusal → Prop
  | .next t => t.Inv
  | .fault f => f.stopped.Inv
  | .refused _ => False

theorem keeps_finish {r : Run State} (h : Keeps r) : KeepsOutcome (finish r) := by
  cases h <;> assumption

theorem keeps_instruction {f : Handler} (hf : KeepsHandler f) (o : Operand) (size cycles : Nat) (p : Bool) {s : State}
    (h : s.Inv) : KeepsOutcome (instruction o size cycles p f s) :=
  keeps_finish (Post.bind (keeps_resolve h o) fun _ hp => hf _ _ _ hp)

theorem keeps_noHandler {s : State} (h : s.Inv) (op : Byte) : KeepsOutcome (noHandler op s) := inv_raise h _

theorem keeps_extra {run : State → Host.Outcome State Fault Refusal} {s : State} (h : s.Inv)
    (hr : KeepsOutcome (run s)) (op : Byte) : KeepsOutcome (extra op run s) := by
  unfold extra
  split
  · exact hr
  · exact keeps_noHandler h op

theorem keeps_storeHigh {s : State} (h : s.Inv) (r : Resolved) (reg : Byte) : Keeps (storeHigh r reg s) :=
  keeps_memWrite h _ _

theorem keepsHandler_shift (f : Bool → Byte → Byte × Bool) : KeepsHandler (shift f) :=
  fun o r _ h => Post.bind (keeps_readOperand h o r) fun _ hp =>
    Post.bind (keeps_writeOperand (inv_setC hp _) o r _) fun _ ht => .ok (inv_setZN ht _)

theorem keepsHandler_shiftThen (f : Bool → Byte → Byte × Bool) {g : Byte → State → State}
    (hg : ∀ b s, State.Inv s → (g b s).Inv) : KeepsHandler (shiftThen f g) :=
  fun o r _ h => Post.bind (keeps_readOperand h o r) fun _ hp =>
    Post.bind (keeps_writeOperand (inv_setC hp _) o r _) fun t ht => .ok (hg _ t ht)

theorem keepsHandler_branch (c : Flags → Bool) : KeepsHandler (branch c) := by
  intro o r s h
  unfold branch
  split <;> exact .ok h

/-! ## The PPU's step -/

theorem inv_frameComplete {s : State} (h : s.Inv) : s.frameComplete.Inv := h

theorem inv_tick {s : State} (h : s.Inv) : s.tick.Inv := by
  obtain ⟨hc, hb, ⟨⟨h1, h2⟩, h3⟩, hk⟩ := h
  unfold State.tick
  split
  · exact ⟨hc, hb, ⟨⟨Nat.zero_le _, Nat.zero_le _⟩, h3⟩, hk⟩
  · split
    · split
      · exact ⟨hc, hb, ⟨⟨Nat.zero_le _, Nat.zero_le _⟩, h3⟩, hk⟩
      · next hs => exact ⟨hc, hb, ⟨⟨by simpa using hs, Nat.zero_le _⟩, h3⟩, hk⟩
    · next hs => exact ⟨hc, hb, ⟨⟨h1, by simpa using hs⟩, h3⟩, hk⟩

/-- The scan of `EvaluateSprites()` finds at most eight sprites and writes only the sprite buffer and the overflow flag (R540). -/
theorem evaluateFrom_spec (line : Nat) : ∀ (fuel i k n : Nat) (u : Ppu), n ≤ 8 →
    ∃ c sp ix ov, c ≤ 8 ∧ evaluateFrom line fuel i k n u =
      { u with spriteCount := c, sprites := sp, spriteIndex := ix, spriteOverflow := ov } := by
  intro fuel
  induction fuel with
  | zero => intro i k n u hn; exact ⟨n, u.sprites, u.spriteIndex, u.spriteOverflow, hn, rfl⟩
  | succ fuel ih =>
    intro i k n u hn
    unfold evaluateFrom
    split
    · split
      · split
        · exact ⟨n, u.sprites, u.spriteIndex, true, hn, rfl⟩
        · next h8 =>
          obtain ⟨c, sp, ix, ov, hc, e⟩ := ih (i + 4) (k + 1) (n + 1)
            { u with sprites := u.sprites.setIfInBounds n (u.oamSprite i),
                     spriteIndex := u.spriteIndex.setIfInBounds n k } (by omega)
          exact ⟨c, sp, ix, ov, hc, e⟩
      · exact ih (i + 4) (k + 1) n u hn
    · exact ⟨n, u.sprites, u.spriteIndex, u.spriteOverflow, hn, rfl⟩

theorem inv_evaluateSprites {u : Ppu} (h : u.Inv) (line : Nat) : (u.evaluateSprites line).Inv := by
  obtain ⟨c, sp, ix, ov, hc, e⟩ := evaluateFrom_spec line 64 u.oamAddr.toNat 0 0 u (by omega)
  unfold Ppu.evaluateSprites
  rw [e]
  exact ⟨h.1, hc, h.2.2⟩

theorem inv_scrollStep {u : Ppu} (h : u.Inv) (line cyc : Nat) : (u.scrollStep line cyc).Inv := by
  unfold Ppu.scrollStep
  simp only []
  repeat' split
  all_goals exact h

theorem inv_spriteStep {u : Ppu} (h : u.Inv) (line cyc : Nat) : (u.spriteStep line cyc).Inv := by
  unfold Ppu.spriteStep
  split
  · split
    · exact inv_evaluateSprites h line
    · exact ⟨h.1, Nat.zero_le _, h.2.2⟩
  · exact h

theorem pixels_write {b : Byte} (hb : b < 64) : ∀ {m : Memory} (k : Nat), pixels m = true →
    pixels (m.write k b) = true := by
  intro m
  induction m with
  | nil =>
    intro k _
    by_cases h0 : b = Memory.unlisted <;> simp [Memory.write, h0, pixels]
    exact hb
  | cons c m ih =>
    obtain ⟨j, v⟩ := c
    intro k h
    simp only [pixels, List.all_cons, Bool.and_eq_true, decide_eq_true_eq] at h
    unfold Memory.write
    repeat' split
    · exact h.2
    · simp only [pixels, List.all_cons, Bool.and_eq_true, decide_eq_true_eq]
      exact ⟨hb, h.2⟩
    · simp only [pixels, List.all_cons, Bool.and_eq_true, decide_eq_true_eq]
      exact h
    · simp only [pixels, List.all_cons, Bool.and_eq_true, decide_eq_true_eq]
      exact ⟨hb, h⟩
    · simp only [pixels, List.all_cons, Bool.and_eq_true, decide_eq_true_eq]
      exact ⟨h.1, ih k h.2⟩

theorem masked_lt (b : Byte) : b &&& 0x3F < 64 := by
  rw [BitVec.lt_def, BitVec.toNat_and]
  exact Nat.lt_of_le_of_lt Nat.and_le_right (by decide)

theorem inv_renderPixel {s : State} (h : s.Inv) {line x : Nat} (hl : line < 240) (hx : x < 256) :
    (s.renderPixel line x).Inv := by
  obtain ⟨hc, hb, ⟨h1, h2, h3, h4, h5, h6, h7, h8⟩, hk⟩ := h
  exact ⟨hc, hb, ⟨h1, h2, h3, h4, h5, h6, Memory.wf_write _ h7 (by omega), pixels_write (masked_lt _) _ h8⟩, hk⟩

theorem inv_fetchStep {s : State} (h : s.Inv) (cyc : Nat) : (s.fetchStep cyc).Inv := by
  unfold State.fetchStep
  split <;> exact h

theorem inv_renderDot {s : State} (h : s.Inv) (line cyc : Nat) : (s.renderDot line cyc).Inv := by
  unfold State.renderDot
  simp only []
  have h1 : State.Inv (if (visibleLine line && visibleCycle cyc) = true then s.renderPixel line (cyc - 1) else s) := by
    split
    · next hv =>
      simp only [visibleLine, visibleCycle, Bool.and_eq_true, decide_eq_true_eq] at hv
      exact inv_renderPixel h hv.1 (by omega)
    · exact h
  generalize (if (visibleLine line && visibleCycle cyc) = true then s.renderPixel line (cyc - 1) else s) = s1 at h1
  have h2 : State.Inv (if (renderLine line && fetchCycle cyc) = true then (s1.setPpu s1.ppu.shiftTiles).fetchStep cyc
      else s1) := by
    split
    · exact inv_fetchStep (s := s1.setPpu s1.ppu.shiftTiles) h1 cyc
    · exact h1
  generalize (if (renderLine line && fetchCycle cyc) = true then (s1.setPpu s1.ppu.shiftTiles).fetchStep cyc
      else s1) = s2 at h2
  exact ⟨h2.1, h2.2.1, inv_spriteStep (inv_scrollStep h2.2.2.1 line cyc) line cyc, h2.2.2.2⟩

theorem inv_vblankStep {s : State} (h : s.Inv) (line cyc : Nat) : (s.vblankStep line cyc).Inv := by
  unfold State.vblankStep
  simp only []
  have h1 : State.Inv (if line = 241 ∧ cyc = 1 then (s.setPpu { s.ppu with vblank := true }).nmiChange else s) := by
    split
    · exact inv_nmiChange h.1 h.2.1 ⟨h.2.2.1.1, h.2.2.1.2.1, rfl, h.2.2.1.2.2.2⟩ h.2.2.2
    · exact h
  generalize (if line = 241 ∧ cyc = 1 then (s.setPpu { s.ppu with vblank := true }).nmiChange else s) = s1 at h1
  split
  · exact inv_nmiChange h1.1 h1.2.1 ⟨h1.2.2.1.1, h1.2.2.1.2.1, rfl, h1.2.2.1.2.2.2⟩ h1.2.2.2
  · exact h1

theorem inv_ppuStep {s : State} (h : s.Inv) : s.ppuStep.Inv := by
  unfold State.ppuStep
  simp only []
  apply inv_vblankStep
  split
  · exact inv_renderDot (inv_tick h) _ _
  · exact inv_tick h

theorem inv_mapperStep {s : State} (h : s.Inv) : s.mapperStep.Inv := by
  unfold State.mapperStep
  split
  · split
    · next r hr hc =>
      have h1 : (s.setCart { s.cart with regs := .mmc3 r.clock }).Inv := inv_setCart h (mmc3_clock_inv h.2.2.2)
      simp only []
      split
      · exact inv_triggerIrq h1
      · exact h1
    · exact h
  · exact h

end Sys2Proof.Machine
end

