-- ==== Sys2Proof/Laws/Exec.lean ====
section
/-! SUPPORT. What `exec` is, said once for all 256 rows: the handler of the mnemonic in the frame of R156, or the stop of an
opcode without a handler; and that every handler, meaning and device step keeps the invariant. -/

namespace Sys2Proof.Machine

open Sys2Proof

/-- The handler of a mnemonic (R156 step 7). The 13 illegal rows have none; the value here is not used. -/
def handlerOf : Mnemonic → Handler
  | .lda => lda
  | .ldx => ldx
  | .ldy => ldy
  | .sta => sta
  | .stx => stx
  | .sty => sty
  | .tax => tax
  | .tay => tay
  | .txa => txa
  | .tya => tya
  | .tsx => tsx
  | .txs => txs
  | .pha => pha
  | .php => php
  | .pla => pla
  | .plp => plp
  | .and => andA
  | .ora => oraA
  | .eor => eorA
  | .bit => bitTest
  | .adc => adc
  | .sbc => sbc
  | .cmp => cmp
  | .cpx => cpx
  | .cpy => cpy
  | .inc => inc
  | .dec => dec
  | .inx => inx
  | .iny => iny
  | .dex => dex
  | .dey => dey
  | .asl => asl
  | .lsr => lsr
  | .rol => rol
  | .ror => ror
  | .jmp => jmp
  | .jsr => jsr
  | .rts => rts
  | .rti => rti
  | .brk => brk
  | .bcc => bcc
  | .bcs => bcs
  | .beq => beq
  | .bne => bne
  | .bmi => bmi
  | .bpl => bpl
  | .bvc => bvc
  | .bvs => bvs
  | .clc => clc
  | .sec => sec
  | .cli => cli
  | .sei => sei
  | .clv => clv
  | .cld => cld
  | .sed => sed
  | .nop => nop
  | .lax => lax
  | .sax => sax
  | .dcp => dcp
  | .isc => isc
  | .slo => slo
  | .rla => rla
  | .sre => sre
  | .rra => rra
  | .anc => anc
  | .alr => alr
  | .arr => arr
  | .sbx => sbx
  | .ane => ane
  | .las => las
  | .sha => sha
  | .shx => shx
  | .shy => shy
  | .tas => tas
  | .illegal => nop

/-- An instruction with a handler runs it in the frame of R156: resolve, advance, operate. -/
theorem exec_eq (i : Instr) (s : State) (h : i.wellFormed s.unofficialExtras = true) :
    exec i s = instruction i.operand i.size i.row.cycles i.row.pageCross (handlerOf i.mnemonic) s := by
  cases i <;> first | rfl | exact if_pos h

/-- An instruction without a handler stops (R159, R160). -/
theorem exec_stop (i : Instr) (s : State) (h : i.wellFormed s.unofficialExtras = false) :
    exec i s = noHandler i.opcode s := by
  cases i <;> first | rfl | cases h | exact if_neg (by simpa [Instr.wellFormed, OpClass.hasHandler, Instr.cls] using h)

/-! ## Handlers -/

theorem keeps_lda : KeepsHandler lda := fun o r _ h => Post.bind (keeps_readOperand h o r) fun _ hp => .ok hp
theorem keeps_ldx : KeepsHandler ldx := fun o r _ h => Post.bind (keeps_readOperand h o r) fun _ hp => .ok hp
theorem keeps_ldy : KeepsHandler ldy := fun o r _ h => Post.bind (keeps_readOperand h o r) fun _ hp => .ok hp
theorem keeps_andA : KeepsHandler andA := fun o r _ h => Post.bind (keeps_readOperand h o r) fun _ hp => .ok hp
theorem keeps_oraA : KeepsHandler oraA := fun o r _ h => Post.bind (keeps_readOperand h o r) fun _ hp => .ok hp
theorem keeps_eorA : KeepsHandler eorA := fun o r _ h => Post.bind (keeps_readOperand h o r) fun _ hp => .ok hp
theorem keeps_bitTest : KeepsHandler bitTest := fun o r _ h => Post.bind (keeps_readOperand h o r) fun _ hp => .ok hp
theorem keeps_adc : KeepsHandler adc := fun o r _ h => Post.bind (keeps_readOperand h o r) fun _ hp => .ok hp
theorem keeps_sbc : KeepsHandler sbc := fun o r _ h => Post.bind (keeps_readOperand h o r) fun _ hp => .ok hp
theorem keeps_cmp : KeepsHandler cmp := fun o r _ h => Post.bind (keeps_readOperand h o r) fun _ hp => .ok hp
theorem keeps_cpx : KeepsHandler cpx := fun o r _ h => Post.bind (keeps_readOperand h o r) fun _ hp => .ok hp
theorem keeps_cpy : KeepsHandler cpy := fun o r _ h => Post.bind (keeps_readOperand h o r) fun _ hp => .ok hp
theorem keeps_lax : KeepsHandler lax := fun o r _ h => Post.bind (keeps_readOperand h o r) fun _ hp => .ok hp
theorem keeps_anc : KeepsHandler anc := fun o r _ h => Post.bind (keeps_readOperand h o r) fun _ hp => .ok hp
theorem keeps_alr : KeepsHandler alr := fun o r _ h => Post.bind (keeps_readOperand h o r) fun _ hp => .ok hp
theorem keeps_arr : KeepsHandler arr := fun o r _ h => Post.bind (keeps_readOperand h o r) fun _ hp => .ok hp
theorem keeps_sbx : KeepsHandler sbx := fun o r _ h => Post.bind (keeps_readOperand h o r) fun _ hp => .ok hp
theorem keeps_ane : KeepsHandler ane := fun o r _ h => Post.bind (keeps_readOperand h o r) fun _ hp => .ok hp
theorem keeps_las : KeepsHandler las := fun o r _ h => Post.bind (keeps_readOperand h o r) fun _ hp => .ok hp
theorem keeps_sta : KeepsHandler sta := fun o r _ h => keeps_writeOperand h o r _
theorem keeps_stx : KeepsHandler stx := fun o r _ h => keeps_writeOperand h o r _
theorem keeps_sty : KeepsHandler sty := fun o r _ h => keeps_writeOperand h o r _
theorem keeps_sax : KeepsHandler sax := fun o r _ h => keeps_writeOperand h o r _
theorem keeps_tax : KeepsHandler tax := fun _ _ _ h => .ok h
theorem keeps_tay : KeepsHandler tay := fun _ _ _ h => .ok h
theorem keeps_txa : KeepsHandler txa := fun _ _ _ h => .ok h
theorem keeps_tya : KeepsHandler tya := fun _ _ _ h => .ok h
theorem keeps_tsx : KeepsHandler tsx := fun _ _ _ h => .ok h
theorem keeps_txs : KeepsHandler txs := fun _ _ _ h => .ok h
theorem keeps_inx : KeepsHandler inx := fun _ _ _ h => .ok h
theorem keeps_iny : KeepsHandler iny := fun _ _ _ h => .ok h
theorem keeps_dex : KeepsHandler dex := fun _ _ _ h => .ok h
theorem keeps_dey : KeepsHandler dey := fun _ _ _ h => .ok h
theorem keeps_clc : KeepsHandler clc := fun _ _ _ h => .ok h
theorem keeps_sec : KeepsHandler sec := fun _ _ _ h => .ok h
theorem keeps_cli : KeepsHandler cli := fun _ _ _ h => .ok h
theorem keeps_sei : KeepsHandler sei := fun _ _ _ h => .ok h
theorem keeps_clv : KeepsHandler clv := fun _ _ _ h => .ok h
theorem keeps_cld : KeepsHandler cld := fun _ _ _ h => .ok h
theorem keeps_sed : KeepsHandler sed := fun _ _ _ h => .ok h
theorem keeps_nop : KeepsHandler nop := fun _ _ _ h => .ok h
theorem keeps_jmp : KeepsHandler jmp := fun _ _ _ h => .ok h
theorem keeps_pha : KeepsHandler pha := fun _ _ _ h => keeps_push h _
theorem keeps_php : KeepsHandler php := fun _ _ _ h => keeps_push h _
theorem keeps_pla : KeepsHandler pla := fun _ _ _ h => Post.bind (keeps_pull h) fun _ hp => .ok hp
theorem keeps_plp : KeepsHandler plp := fun _ _ _ h => Post.bind (keeps_pull h) fun _ hp => .ok hp
theorem keeps_inc : KeepsHandler inc := fun o r _ h =>
  Post.bind (keeps_readOperand h o r) fun _ hp => Post.bind (keeps_writeOperand hp o r _) fun _ ht => .ok ht
theorem keeps_dec : KeepsHandler dec := fun o r _ h =>
  Post.bind (keeps_readOperand h o r) fun _ hp => Post.bind (keeps_writeOperand hp o r _) fun _ ht => .ok ht
theorem keeps_dcp : KeepsHandler dcp := fun o r _ h =>
  Post.bind (keeps_readOperand h o r) fun _ hp => Post.bind (keeps_writeOperand hp o r _) fun _ ht => .ok ht
theorem keeps_isc : KeepsHandler isc := fun o r _ h =>
  Post.bind (keeps_readOperand h o r) fun _ hp => Post.bind (keeps_writeOperand hp o r _) fun _ ht => .ok ht
theorem keeps_asl : KeepsHandler asl := keepsHandler_shift _
theorem keeps_lsr : KeepsHandler lsr := keepsHandler_shift _
theorem keeps_rol : KeepsHandler rol := keepsHandler_shift _
theorem keeps_ror : KeepsHandler ror := keepsHandler_shift _
theorem keeps_slo : KeepsHandler slo := keepsHandler_shiftThen _ fun _ _ h => h
theorem keeps_rla : KeepsHandler rla := keepsHandler_shiftThen _ fun _ _ h => h
theorem keeps_sre : KeepsHandler sre := keepsHandler_shiftThen _ fun _ _ h => h
theorem keeps_rra : KeepsHandler rra := keepsHandler_shiftThen _ fun _ _ h => h
theorem keeps_bcc : KeepsHandler bcc := keepsHandler_branch _
theorem keeps_bcs : KeepsHandler bcs := keepsHandler_branch _
theorem keeps_beq : KeepsHandler beq := keepsHandler_branch _
theorem keeps_bne : KeepsHandler bne := keepsHandler_branch _
theorem keeps_bmi : KeepsHandler bmi := keepsHandler_branch _
theorem keeps_bpl : KeepsHandler bpl := keepsHandler_branch _
theorem keeps_bvc : KeepsHandler bvc := keepsHandler_branch _
theorem keeps_bvs : KeepsHandler bvs := keepsHandler_branch _
theorem keeps_jsr : KeepsHandler jsr := fun _ _ _ h => Post.bind (keeps_pushWord h _) fun _ ht => .ok ht
theorem keeps_rts : KeepsHandler rts := fun _ _ _ h => Post.bind (keeps_pullWord h) fun _ hp => .ok hp
theorem keeps_rti : KeepsHandler rti := fun _ _ _ h => keeps_returnFromInterrupt h
theorem keeps_brk : KeepsHandler brk := fun _ _ _ h => keeps_enterInterrupt h true irqVector
theorem keeps_sha : KeepsHandler sha := fun _ r _ h => keeps_storeHigh h r _
theorem keeps_shx : KeepsHandler shx := fun _ r _ h => keeps_storeHigh h r _
theorem keeps_shy : KeepsHandler shy := fun _ r _ h => keeps_storeHigh h r _
theorem keeps_tas : KeepsHandler tas := fun _ r s h => keeps_storeHigh (s := s.setS (s.cpu.a &&& s.cpu.x)) h r _

theorem keeps_handlerOf (m : Mnemonic) : KeepsHandler (handlerOf m) := by
  cases m
  · exact keeps_lda
  · exact keeps_ldx
  · exact keeps_ldy
  · exact keeps_sta
  · exact keeps_stx
  · exact keeps_sty
  · exact keeps_tax
  · exact keeps_tay
  · exact keeps_txa
  · exact keeps_tya
  · exact keeps_tsx
  · exact keeps_txs
  · exact keeps_pha
  · exact keeps_php
  · exact keeps_pla
  · exact keeps_plp
  · exact keeps_andA
  · exact keeps_oraA
  · exact keeps_eorA
  · exact keeps_bitTest
  · exact keeps_adc
  · exact keeps_sbc
  · exact keeps_cmp
  · exact keeps_cpx
  · exact keeps_cpy
  · exact keeps_inc
  · exact keeps_dec
  · exact keeps_inx
  · exact keeps_iny
  · exact keeps_dex
  · exact keeps_dey
  · exact keeps_asl
  · exact keeps_lsr
  · exact keeps_rol
  · exact keeps_ror
  · exact keeps_jmp
  · exact keeps_jsr
  · exact keeps_rts
  · exact keeps_rti
  · exact keeps_brk
  · exact keeps_bcc
  · exact keeps_bcs
  · exact keeps_beq
  · exact keeps_bne
  · exact keeps_bmi
  · exact keeps_bpl
  · exact keeps_bvc
  · exact keeps_bvs
  · exact keeps_clc
  · exact keeps_sec
  · exact keeps_cli
  · exact keeps_sei
  · exact keeps_clv
  · exact keeps_cld
  · exact keeps_sed
  · exact keeps_nop
  · exact keeps_lax
  · exact keeps_sax
  · exact keeps_dcp
  · exact keeps_isc
  · exact keeps_slo
  · exact keeps_rla
  · exact keeps_sre
  · exact keeps_rra
  · exact keeps_anc
  · exact keeps_alr
  · exact keeps_arr
  · exact keeps_sbx
  · exact keeps_ane
  · exact keeps_las
  · exact keeps_sha
  · exact keeps_shx
  · exact keeps_shy
  · exact keeps_tas
  · exact keeps_nop

/-- Every meaning keeps the invariant. -/
theorem keeps_exec (i : Instr) {s : State} (h : s.Inv) : KeepsOutcome (exec i s) := by
  cases hw : i.wellFormed s.unofficialExtras with
  | true =>
    rw [exec_eq i s hw]
    exact keeps_instruction (keeps_handlerOf _) _ _ _ _ h
  | false =>
    rw [exec_stop i s hw]
    exact keeps_noHandler h _

/-! ## Devices -/

theorem inv_devices : ∀ (n : Nat) {s : State}, s.Inv → (State.devices n s).Inv := by
  intro n
  induction n with
  | zero => intro s h; exact h
  | succ n ih => intro s h; exact ih (inv_mapperStep (inv_ppuStep h))

theorem keeps_afterInstruction {o : Host.Outcome State Fault Refusal} (h : KeepsOutcome o) (before : State) :
    KeepsOutcome (afterInstruction before o) := by
  cases o with
  | next t => exact inv_devices _ h
  | fault f => exact h
  | refused r => exact h

end Sys2Proof.Machine
end

