-- ==== Sys2Proof/Laws/Frame.lean ====
section
/-! SUPPORT. What the stepping loop can answer: it is a run of some length, which ended because the parity changed or because
the bound was reached; a fault it answers is the fault of a step. -/

namespace Sys2Proof.Machine

open Sys2Proof

/-- The first step of a run. -/
theorem run_succ {s t : State} (h : step s = .next t) (k : Nat) :
    Host.Core.run Sys2Proof.core (k + 1) s = Host.Core.run Sys2Proof.core k t := by
  have hc : core.step s = .next t := h
  simp only [Host.Core.run, hc]

/-- A loop that answers a state ran some number of steps to it, and stopped there for one of its two reasons (R700). -/
theorem stepUntil_next {f0 : Bool} : ∀ {n : Nat} {s t : State}, stepUntil f0 n s = .next t →
    ∃ k, k ≤ n ∧ Host.Core.run Sys2Proof.core k s = .next t ∧ (t.ppu.f ≠ f0 ∨ k = n) := by
  intro n
  induction n with
  | zero => exact fun h => ⟨0, Nat.le_refl _, h, .inr rfl⟩
  | succ n ih =>
    intro s t h
    rw [stepUntil] at h
    split at h
    · next u hu =>
      split at h
      · obtain ⟨k, hk, hr, he⟩ := ih h
        exact ⟨k + 1, by omega, (run_succ hu k).trans hr, he.imp id fun e => by rw [e]⟩
      · next hf =>
        cases h
        exact ⟨1, by omega, run_succ hu 0, .inl hf⟩
    · cases h
    · cases h

/-- A loop that answers a fault met it in a step, which some number of steps led to (R702). -/
theorem stepUntil_fault {f0 : Bool} {f : Fault} : ∀ {n : Nat} {s : State}, stepUntil f0 n s = .fault f →
    ∃ k t, k < n ∧ Host.Core.run Sys2Proof.core k s = .next t ∧ step t = .fault f := by
  intro n
  induction n with
  | zero => exact fun h => by cases h
  | succ n ih =>
    intro s h
    rw [stepUntil] at h
    split at h
    · next u hu =>
      split at h
      · obtain ⟨k, t, hk, hr, he⟩ := ih h
        exact ⟨k + 1, t, by omega, (run_succ hu k).trans hr, he⟩
      · cases h
    · next g hg => cases h; exact ⟨0, s, by omega, rfl, hg⟩
    · cases h

end Sys2Proof.Machine
end

