-- ==== Sys2Proof/Laws/Operands.lean ====
section
/-! SUPPORT. Laws of operands and of the bus write: resolving every mode but `ind` is reading the state; an instruction of such a
mode is its handler run in the advanced state; when a data read and a bus write succeed. -/

namespace Sys2Proof.Machine

open Sys2Proof

/-! ## Modes -/

theorem zpNext (z : Byte) : wordOf (hiByte (zext16 z)) (loByte (zext16 z) + 1) = zext16 (z + 1) := by
  apply BitVec.eq_of_toNat_eq
  have h := z.isLt
  rw [wordOf_toNat]
  simp only [hiByte, loByte, zext16, BitVec.extractLsb'_toNat, BitVec.toNat_setWidth, BitVec.toNat_add,
    Nat.shiftRight_eq_div_pow]
  omega

/-- A pointer in the zero page is read without side effect (R153, R154). -/
theorem readPointer_zp (z : Byte) (s : State) : readPointer (zext16 z) s = .ok (s.zpPointer z, s) := by
  unfold readPointer State.zpPointer
  rw [memRead_ram s (zext16_lt z), ok_bind]
  simp only []
  rw [zpNext, memRead_ram s (zext16_lt _), ok_bind]
  rfl

/-- Resolving a mode other than `ind` gives `State.target` and changes nothing (R142 to R151, R153, R154). -/
theorem resolve_target {o : Operand} (s : State) (h : operandMode o ≠ .ind) : resolve o s = .ok (s.target o, s) := by
  cases o <;> first | rfl | exact absurd rfl h | skip
  · unfold resolve
    simp only []
    rw [readPointer_zp]
    rfl
  · unfold resolve
    simp only []
    rw [readPointer_zp]
    rfl

/-- Step 6 of R156 gives the advanced state. -/
theorem advance_eq (s : State) (i : Instr) :
    s.advance i.size i.row.cycles i.row.pageCross (s.target i.operand) = s.advanced i := by
  simp only [State.advance, State.advanced, State.charge, State.setPc, Nat.add_assoc]

/-- An instruction of a mode other than `ind` is its handler, run in the advanced state (R156 steps 5 to 7). -/
theorem exec_run {i : Instr} {s : State} (hw : i.wellFormed s.unofficialExtras = true)
    (hm : operandMode i.operand ≠ .ind) :
    exec i s = finish (handlerOf i.mnemonic i.operand (s.target i.operand) (s.advanced i)) := by
  rw [exec_eq i s hw]
  unfold instruction
  rw [resolve_target s hm, ok_bind, ← advance_eq]

/-- Only JMP has the mode `ind` (R152). -/
theorem mode_ne_ind {i : Instr} (h : i.mnemonic ≠ .jmp) : operandMode i.operand ≠ .ind := by
  cases i <;> first | exact absurd rfl h | (intro hc; cases hc)

/-- Only SBC, NOP and the illegal rows depend on class: any other mnemonic is dispatched, whatever `UNOFFICIAL_EXTRAS` (R158 to
R160). -/
theorem wellFormed_of {i : Instr} (extras : Bool) (h1 : i.mnemonic ≠ .sbc) (h2 : i.mnemonic ≠ .nop)
    (h3 : i.mnemonic ≠ .illegal) : i.wellFormed extras = true := by
  cases i <;> first | rfl | exact absurd rfl h1 | exact absurd rfl h2 | exact absurd rfl h3

/-! ## Data reads -/

/-- A readable operand can be read. -/
theorem reads_ok {i : Instr} {s : State} (h : s.operandReadable i.operand = true) : ∃ m t, s.Reads i m t := by
  unfold State.Reads State.operandReadable at *
  cases ho : i.operand <;> rw [ho] at h <;> first
    | exact ⟨_, _, rfl⟩
    | exact memRead_ok _ h

/-- What a data read leaves alone. -/
theorem reads_frame {i : Instr} {s t : State} {m : Byte} (h : s.Reads i m t) : ReadFrame (s.advanced i) t := by
  unfold State.Reads readOperand at h
  split at h
  · cases h
    exact ReadFrame.refl _
  · cases h
    exact ReadFrame.refl _
  · exact memRead_frame h

/-! ## Bus writes -/

/-- A write to a PPU register succeeds unless it is a `$2007` write to CHR-ROM (R506, R604). -/
theorem ppuRegWrite_ok (s : State) (r : Nat) (d : Byte)
    (h : r ≠ 7 ∨ 0x2000 ≤ s.ppu.v.toNat % 0x4000 ∨ s.cart.image.usesChrRam = true) (hr : r < 8) :
    ∃ t, s.ppuRegWrite r d = .ok t := by
  unfold State.ppuRegWrite
  simp only []
  split <;> first | exact ⟨_, rfl⟩ | skip
  next h0 h1 h2 h3 h4 h5 h6 =>
  have h7 : r = 7 := by
    match r, hr with
    | 0, _ => exact absurd rfl h0
    | 1, _ => exact absurd rfl h1
    | 2, _ => exact absurd rfl h2
    | 3, _ => exact absurd rfl h3
    | 4, _ => exact absurd rfl h4
    | 5, _ => exact absurd rfl h5
    | 6, _ => exact absurd rfl h6
    | 7, _ => rfl
  simp only [h7, ne_eq, not_true_eq_false, false_or] at h
  have hp : ∃ t, (s.setPpu { s.ppu with lastWrite := d }).ppuWrite s.ppu.v.toNat d = .ok t := by
    unfold State.ppuWrite Cart.chrWrite
    simp only []
    by_cases h2 : s.ppu.v.toNat % 0x4000 < 0x2000
    · have h3 : s.cart.image.usesChrRam = true := h.resolve_left (by omega)
      rw [if_pos h2]
      have h3' : (s.setPpu { s.ppu with lastWrite := d }).cart.image.usesChrRam = true := h3
      rw [h3']
      exact ⟨_, rfl⟩
    · rw [if_neg h2]
      split <;> exact ⟨_, rfl⟩
  obtain ⟨t, ht⟩ := hp
  unfold State.writePpuData
  exact ⟨_, by rw [show (s.setPpu { s.ppu with lastWrite := d }).ppu.v = s.ppu.v from rfl, ht]; rfl⟩

/-- The copy loop of OAM-DMA ends where every address of the page is readable (R90). -/
theorem dmaCopy_ok {page : Byte} (h : ∀ b : Byte, readable (wordOf page b) = true) :
    ∀ (n i : Nat) (s : State), ∃ t, dmaCopy page n i s = .ok t := by
  intro n
  induction n with
  | zero => exact fun _ s => ⟨s, rfl⟩
  | succ n ih =>
    intro i s
    obtain ⟨b, t, ht⟩ := memRead_ok s (h (BitVec.ofNat 8 i))
    unfold dmaCopy
    rw [ht, ok_bind]
    exact ih _ _

/-- A page outside `0x40`–`0x5F` is readable. -/
theorem page_readable {page : Byte} (h : page < 0x40 ∨ 0x60 ≤ page) (b : Byte) : readable (wordOf page b) = true := by
  have hw := wordOf_toNat page b
  have hb := b.isLt
  simp only [readable, Bool.or_eq_true, decide_eq_true_eq]
  rcases h with h | h
  · left
    bv_omega
  · right
    bv_omega

/-- A write where `writable` says so succeeds (R82). -/
theorem memWrite_ok {a : Word} {v : Byte} {s : State} (h : s.writable a v = true) : ∃ t, memWrite a v s = .ok t := by
  unfold State.writable at h
  unfold memWrite
  by_cases h1 : a < 0x2000
  · exact ⟨_, if_pos h1⟩
  rw [if_neg h1] at h ⊢
  by_cases h2 : a < 0x4000
  · rw [if_pos h2] at h ⊢
    refine ppuRegWrite_ok s _ v ?_ (Nat.mod_lt _ (by omega))
    simpa [or_assoc] using h
  rw [if_neg h2] at h ⊢
  by_cases h3 : a = 0x4014
  · rw [if_pos h3] at h ⊢
    have hp : v < 0x40 ∨ 0x60 ≤ v := by simpa using h
    obtain ⟨t, ht⟩ := dmaCopy_ok (page_readable hp) 256 0 s
    unfold oamDma
    rw [ht]
    exact ⟨_, rfl⟩
  rw [if_neg h3] at h ⊢
  by_cases h4 : a = 0x4016
  · exact ⟨_, if_pos h4⟩
  rw [if_neg h4]
  by_cases h5 : a < 0x4020
  · exact ⟨_, if_pos h5⟩
  rw [if_neg h5]
  have h6 : ¬ a < 0x6000 := by
    simp only [readable, Bool.or_eq_true, decide_eq_true_eq] at h
    bv_omega
  unfold Cart.cpuWrite
  rw [if_neg h6]
  split
  · exact ⟨_, rfl⟩
  · next hn => split at hn <;> cases hn

/-! ## What a bus write leaves alone -/

/-- What no bus write changes: the registers, flags and cycle count, the cartridge file's data, the raster position and
parity, the frame buffer, the fault. -/
structure WriteFrame (s t : State) : Prop where
  a : t.cpu.a = s.cpu.a
  x : t.cpu.x = s.cpu.x
  y : t.cpu.y = s.cpu.y
  sp : t.cpu.s = s.cpu.s
  pc : t.cpu.pc = s.cpu.pc
  p : t.cpu.p = s.cpu.p
  irq : t.cpu.irqPending = s.cpu.irqPending
  cycles : t.cpu.cycles = s.cpu.cycles
  image : t.cart.image = s.cart.image
  expRam : t.cart.expRam = s.cart.expRam
  fault : t.fault = s.fault
  extras : t.unofficialExtras = s.unofficialExtras
  frame : t.lastFrame = s.lastFrame
  framebuffer : t.ppu.framebuffer = s.ppu.framebuffer
  scanline : t.ppu.scanline = s.ppu.scanline
  cycle : t.ppu.cycle = s.ppu.cycle
  parity : t.ppu.f = s.ppu.f

theorem WriteFrame.refl (s : State) : WriteFrame s s := by
  constructor <;> rfl

theorem WriteFrame.trans {s t u : State} (h1 : WriteFrame s t) (h2 : WriteFrame t u) : WriteFrame s u :=
  ⟨h2.a.trans h1.a, h2.x.trans h1.x, h2.y.trans h1.y, h2.sp.trans h1.sp, h2.pc.trans h1.pc, h2.p.trans h1.p,
    h2.irq.trans h1.irq, h2.cycles.trans h1.cycles, h2.image.trans h1.image, h2.expRam.trans h1.expRam,
    h2.fault.trans h1.fault, h2.extras.trans h1.extras, h2.frame.trans h1.frame,
    h2.framebuffer.trans h1.framebuffer, h2.scanline.trans h1.scanline, h2.cycle.trans h1.cycle,
    h2.parity.trans h1.parity⟩

theorem ReadFrame.write {s t : State} (h : ReadFrame s t) : WriteFrame s t :=
  ⟨by rw [h.cpu], by rw [h.cpu], by rw [h.cpu], by rw [h.cpu], by rw [h.cpu], by rw [h.cpu], by rw [h.cpu],
    by rw [h.cpu], by rw [h.cart], by rw [h.cart], h.fault, h.extras, h.frame, h.framebuffer, h.scanline, h.cycle,
    h.parity⟩

theorem nmiChange_frame (s : State) : WriteFrame s s.nmiChange := by
  unfold State.nmiChange
  simp only []
  split <;> (constructor <;> rfl)

theorem ppuWrite_frame {s t : State} {addr : Nat} {v : Byte} (h : s.ppuWrite addr v = .ok t) : WriteFrame s t := by
  unfold State.ppuWrite Cart.chrWrite at h
  simp only [] at h
  split at h
  · split at h
    · next hk =>
      split at hk
      · cases hk
        cases h
        constructor <;> rfl
      · cases hk
    · cases h
  · split at h <;> (cases h; constructor <;> rfl)

theorem ppuRegWrite_frame {s t : State} {r : Nat} {d : Byte} (h : s.ppuRegWrite r d = .ok t) : WriteFrame s t := by
  unfold State.ppuRegWrite at h
  simp only [] at h
  split at h
  · cases h
    unfold State.writePpuCtrl
    refine WriteFrame.trans ?_ (nmiChange_frame _)
    constructor <;> rfl
  · cases h; constructor <;> rfl
  · cases h; constructor <;> rfl
  · cases h; constructor <;> rfl
  · cases h; constructor <;> rfl
  · cases h
    unfold Ppu.writeScroll
    split <;> (constructor <;> rfl)
  · cases h
    unfold Ppu.writeAddr
    simp only []
    split <;> (constructor <;> rfl)
  · obtain ⟨u, hu, he⟩ := bind_ok h
    cases he
    refine WriteFrame.trans ?_ (WriteFrame.trans (ppuWrite_frame hu) ?_) <;> (constructor <;> rfl)

theorem dmaCopy_frame (page : Byte) : ∀ (n i : Nat) {s t : State}, dmaCopy page n i s = .ok t → WriteFrame s t := by
  intro n
  induction n with
  | zero => intro i s t h; cases h; exact WriteFrame.refl _
  | succ n ih =>
    intro i s t h
    obtain ⟨⟨b, u⟩, hu, he⟩ := bind_ok h
    refine (memRead_frame hu).write.trans (WriteFrame.trans ?_ (ih _ he))
    constructor <;> rfl

/-- What a bus write that succeeds leaves alone (R82). -/
theorem memWrite_frame {a : Word} {v : Byte} {s t : State} (h : memWrite a v s = .ok t) : WriteFrame s t := by
  unfold memWrite at h
  split at h
  · cases h; constructor <;> rfl
  · split at h
    · exact ppuRegWrite_frame h
    · split at h
      · obtain ⟨u, hu, he⟩ := bind_ok h
        cases he
        refine (dmaCopy_frame v 256 0 hu).trans ?_
        constructor <;> rfl
      · split at h
        · cases h
          unfold State.controllerWrite State.hostButtons
          split
          · split <;> (constructor <;> rfl)
          · exact WriteFrame.refl _
        · split at h
          · cases h; exact WriteFrame.refl _
          · split at h
            · next k hk =>
              cases h
              have hi : k.image = s.cart.image ∧ k.expRam = s.cart.expRam := by
                unfold Cart.cpuWrite at hk
                split at hk
                · cases hk
                · split at hk
                  · cases hk
                    split <;> exact ⟨rfl, rfl⟩
                  · cases hk
                    have := registerWrite_arrays s.cart a v
                    exact ⟨this.1, this.2.2.2⟩
              exact ⟨rfl, rfl, rfl, rfl, rfl, rfl, rfl, rfl, hi.1, hi.2, rfl, rfl, rfl, rfl, rfl, rfl, rfl⟩
            · cases h

/-- Only a write to `0x4014` changes the stall (R90). -/
theorem memWrite_idle {a : Word} {v : Byte} {s t : State} (h : memWrite a v s = .ok t) (ha : a ≠ 0x4014) :
    t.cpu.idle = s.cpu.idle := by
  unfold memWrite at h
  by_cases h1 : a < 0x2000
  · rw [if_pos h1] at h; cases h; rfl
  rw [if_neg h1] at h
  by_cases h2 : a < 0x4000
  · rw [if_pos h2] at h
    unfold State.ppuRegWrite at h
    simp only [] at h
    split at h
    · cases h; unfold State.writePpuCtrl State.nmiChange State.triggerNmi; simp only []; split <;> rfl
    · cases h; rfl
    · cases h; rfl
    · cases h; rfl
    · cases h; rfl
    · cases h; unfold Ppu.writeScroll; split <;> rfl
    · cases h; unfold Ppu.writeAddr; split <;> rfl
    · obtain ⟨u, hu, he⟩ := bind_ok h
      cases he
      unfold State.ppuWrite at hu
      simp only [] at hu
      split at hu
      · split at hu
        · cases hu; rfl
        · cases hu
      · split at hu <;> (cases hu; rfl)
  rw [if_neg h2, if_neg ha] at h
  split at h
  · cases h; unfold State.controllerWrite State.hostButtons; split
    · simp only []; split <;> rfl
    · rfl
  split at h
  · cases h; rfl
  · split at h
    · cases h; rfl
    · cases h

end Sys2Proof.Machine
end

