-- ==== Sys2Proof/Laws/PerInstr.lean ====
section
/-! SUPPORT. Family `Shape` of LAWS.json, one lemma per constructor of `Instr`: the encoder writes the opcode first and as
many bytes as the table's size column says (spec/30_encoding.md R140, R141). -/

namespace Sys2Proof.Laws.Shape

open Sys2Proof

/-- The encoding of `i` starts with its opcode and is `i.size` bytes long. -/
def Statement (i : Instr) : Prop :=
  (encode i).head? = some i.opcode ∧ (encode i).length = i.size

theorem ldaIzx (z : Byte) : Statement (.ldaIzx z) := ⟨rfl, rfl⟩
theorem ldaZp (z : Byte) : Statement (.ldaZp z) := ⟨rfl, rfl⟩
theorem ldaImm (v : Byte) : Statement (.ldaImm v) := ⟨rfl, rfl⟩
theorem ldaAbs (a : Word) : Statement (.ldaAbs a) := ⟨rfl, rfl⟩
theorem ldaIzy (z : Byte) : Statement (.ldaIzy z) := ⟨rfl, rfl⟩
theorem ldaZpx (z : Byte) : Statement (.ldaZpx z) := ⟨rfl, rfl⟩
theorem ldaAby (a : Word) : Statement (.ldaAby a) := ⟨rfl, rfl⟩
theorem ldaAbx (a : Word) : Statement (.ldaAbx a) := ⟨rfl, rfl⟩
theorem ldxImm (v : Byte) : Statement (.ldxImm v) := ⟨rfl, rfl⟩
theorem ldxZp (z : Byte) : Statement (.ldxZp z) := ⟨rfl, rfl⟩
theorem ldxAbs (a : Word) : Statement (.ldxAbs a) := ⟨rfl, rfl⟩
theorem ldxZpy (z : Byte) : Statement (.ldxZpy z) := ⟨rfl, rfl⟩
theorem ldxAby (a : Word) : Statement (.ldxAby a) := ⟨rfl, rfl⟩
theorem ldyImm (v : Byte) : Statement (.ldyImm v) := ⟨rfl, rfl⟩
theorem ldyZp (z : Byte) : Statement (.ldyZp z) := ⟨rfl, rfl⟩
theorem ldyAbs (a : Word) : Statement (.ldyAbs a) := ⟨rfl, rfl⟩
theorem ldyZpx (z : Byte) : Statement (.ldyZpx z) := ⟨rfl, rfl⟩
theorem ldyAbx (a : Word) : Statement (.ldyAbx a) := ⟨rfl, rfl⟩
theorem staIzx (z : Byte) : Statement (.staIzx z) := ⟨rfl, rfl⟩
theorem staZp (z : Byte) : Statement (.staZp z) := ⟨rfl, rfl⟩
theorem staAbs (a : Word) : Statement (.staAbs a) := ⟨rfl, rfl⟩
theorem staIzy (z : Byte) : Statement (.staIzy z) := ⟨rfl, rfl⟩
theorem staZpx (z : Byte) : Statement (.staZpx z) := ⟨rfl, rfl⟩
theorem staAby (a : Word) : Statement (.staAby a) := ⟨rfl, rfl⟩
theorem staAbx (a : Word) : Statement (.staAbx a) := ⟨rfl, rfl⟩
theorem stxZp (z : Byte) : Statement (.stxZp z) := ⟨rfl, rfl⟩
theorem stxAbs (a : Word) : Statement (.stxAbs a) := ⟨rfl, rfl⟩
theorem stxZpy (z : Byte) : Statement (.stxZpy z) := ⟨rfl, rfl⟩
theorem styZp (z : Byte) : Statement (.styZp z) := ⟨rfl, rfl⟩
theorem styAbs (a : Word) : Statement (.styAbs a) := ⟨rfl, rfl⟩
theorem styZpx (z : Byte) : Statement (.styZpx z) := ⟨rfl, rfl⟩
theorem tax : Statement (.tax) := ⟨rfl, rfl⟩
theorem tay : Statement (.tay) := ⟨rfl, rfl⟩
theorem txa : Statement (.txa) := ⟨rfl, rfl⟩
theorem tya : Statement (.tya) := ⟨rfl, rfl⟩
theorem tsx : Statement (.tsx) := ⟨rfl, rfl⟩
theorem txs : Statement (.txs) := ⟨rfl, rfl⟩
theorem pha : Statement (.pha) := ⟨rfl, rfl⟩
theorem php : Statement (.php) := ⟨rfl, rfl⟩
theorem pla : Statement (.pla) := ⟨rfl, rfl⟩
theorem plp : Statement (.plp) := ⟨rfl, rfl⟩
theorem andIzx (z : Byte) : Statement (.andIzx z) := ⟨rfl, rfl⟩
theorem andZp (z : Byte) : Statement (.andZp z) := ⟨rfl, rfl⟩
theorem andImm (v : Byte) : Statement (.andImm v) := ⟨rfl, rfl⟩
theorem andAbs (a : Word) : Statement (.andAbs a) := ⟨rfl, rfl⟩
theorem andIzy (z : Byte) : Statement (.andIzy z) := ⟨rfl, rfl⟩
theorem andZpx (z : Byte) : Statement (.andZpx z) := ⟨rfl, rfl⟩
theorem andAby (a : Word) : Statement (.andAby a) := ⟨rfl, rfl⟩
theorem andAbx (a : Word) : Statement (.andAbx a) := ⟨rfl, rfl⟩
theorem oraIzx (z : Byte) : Statement (.oraIzx z) := ⟨rfl, rfl⟩
theorem oraZp (z : Byte) : Statement (.oraZp z) := ⟨rfl, rfl⟩
theorem oraImm (v : Byte) : Statement (.oraImm v) := ⟨rfl, rfl⟩
theorem oraAbs (a : Word) : Statement (.oraAbs a) := ⟨rfl, rfl⟩
theorem oraIzy (z : Byte) : Statement (.oraIzy z) := ⟨rfl, rfl⟩
theorem oraZpx (z : Byte) : Statement (.oraZpx z) := ⟨rfl, rfl⟩
theorem oraAby (a : Word) : Statement (.oraAby a) := ⟨rfl, rfl⟩
theorem oraAbx (a : Word) : Statement (.oraAbx a) := ⟨rfl, rfl⟩
theorem eorIzx (z : Byte) : Statement (.eorIzx z) := ⟨rfl, rfl⟩
theorem eorZp (z : Byte) : Statement (.eorZp z) := ⟨rfl, rfl⟩
theorem eorImm (v : Byte) : Statement (.eorImm v) := ⟨rfl, rfl⟩
theorem eorAbs (a : Word) : Statement (.eorAbs a) := ⟨rfl, rfl⟩
theorem eorIzy (z : Byte) : Statement (.eorIzy z) := ⟨rfl, rfl⟩
theorem eorZpx (z : Byte) : Statement (.eorZpx z) := ⟨rfl, rfl⟩
theorem eorAby (a : Word) : Statement (.eorAby a) := ⟨rfl, rfl⟩
theorem eorAbx (a : Word) : Statement (.eorAbx a) := ⟨rfl, rfl⟩
theorem bitZp (z : Byte) : Statement (.bitZp z) := ⟨rfl, rfl⟩
theorem bitAbs (a : Word) : Statement (.bitAbs a) := ⟨rfl, rfl⟩
theorem adcIzx (z : Byte) : Statement (.adcIzx z) := ⟨rfl, rfl⟩
theorem adcZp (z : Byte) : Statement (.adcZp z) := ⟨rfl, rfl⟩
theorem adcImm (v : Byte) : Statement (.adcImm v) := ⟨rfl, rfl⟩
theorem adcAbs (a : Word) : Statement (.adcAbs a) := ⟨rfl, rfl⟩
theorem adcIzy (z : Byte) : Statement (.adcIzy z) := ⟨rfl, rfl⟩
theorem adcZpx (z : Byte) : Statement (.adcZpx z) := ⟨rfl, rfl⟩
theorem adcAby (a : Word) : Statement (.adcAby a) := ⟨rfl, rfl⟩
theorem adcAbx (a : Word) : Statement (.adcAbx a) := ⟨rfl, rfl⟩
theorem sbcIzx (z : Byte) : Statement (.sbcIzx z) := ⟨rfl, rfl⟩
theorem sbcZp (z : Byte) : Statement (.sbcZp z) := ⟨rfl, rfl⟩
theorem sbcImm (v : Byte) : Statement (.sbcImm v) := ⟨rfl, rfl⟩
theorem sbcAbs (a : Word) : Statement (.sbcAbs a) := ⟨rfl, rfl⟩
theorem sbcIzy (z : Byte) : Statement (.sbcIzy z) := ⟨rfl, rfl⟩
theorem sbcZpx (z : Byte) : Statement (.sbcZpx z) := ⟨rfl, rfl⟩
theorem sbcAby (a : Word) : Statement (.sbcAby a) := ⟨rfl, rfl⟩
theorem sbcAbx (a : Word) : Statement (.sbcAbx a) := ⟨rfl, rfl⟩
theorem cmpIzx (z : Byte) : Statement (.cmpIzx z) := ⟨rfl, rfl⟩
theorem cmpZp (z : Byte) : Statement (.cmpZp z) := ⟨rfl, rfl⟩
theorem cmpImm (v : Byte) : Statement (.cmpImm v) := ⟨rfl, rfl⟩
theorem cmpAbs (a : Word) : Statement (.cmpAbs a) := ⟨rfl, rfl⟩
theorem cmpIzy (z : Byte) : Statement (.cmpIzy z) := ⟨rfl, rfl⟩
theorem cmpZpx (z : Byte) : Statement (.cmpZpx z) := ⟨rfl, rfl⟩
theorem cmpAby (a : Word) : Statement (.cmpAby a) := ⟨rfl, rfl⟩
theorem cmpAbx (a : Word) : Statement (.cmpAbx a) := ⟨rfl, rfl⟩
theorem cpxImm (v : Byte) : Statement (.cpxImm v) := ⟨rfl, rfl⟩
theorem cpxZp (z : Byte) : Statement (.cpxZp z) := ⟨rfl, rfl⟩
theorem cpxAbs (a : Word) : Statement (.cpxAbs a) := ⟨rfl, rfl⟩
theorem cpyImm (v : Byte) : Statement (.cpyImm v) := ⟨rfl, rfl⟩
theorem cpyZp (z : Byte) : Statement (.cpyZp z) := ⟨rfl, rfl⟩
theorem cpyAbs (a : Word) : Statement (.cpyAbs a) := ⟨rfl, rfl⟩
theorem incZp (z : Byte) : Statement (.incZp z) := ⟨rfl, rfl⟩
theorem incAbs (a : Word) : Statement (.incAbs a) := ⟨rfl, rfl⟩
theorem incZpx (z : Byte) : Statement (.incZpx z) := ⟨rfl, rfl⟩
theorem incAbx (a : Word) : Statement (.incAbx a) := ⟨rfl, rfl⟩
theorem decZp (z : Byte) : Statement (.decZp z) := ⟨rfl, rfl⟩
theorem decAbs (a : Word) : Statement (.decAbs a) := ⟨rfl, rfl⟩
theorem decZpx (z : Byte) : Statement (.decZpx z) := ⟨rfl, rfl⟩
theorem decAbx (a : Word) : Statement (.decAbx a) := ⟨rfl, rfl⟩
theorem inx : Statement (.inx) := ⟨rfl, rfl⟩
theorem iny : Statement (.iny) := ⟨rfl, rfl⟩
theorem dex : Statement (.dex) := ⟨rfl, rfl⟩
theorem dey : Statement (.dey) := ⟨rfl, rfl⟩
theorem aslZp (z : Byte) : Statement (.aslZp z) := ⟨rfl, rfl⟩
theorem aslAcc : Statement (.aslAcc) := ⟨rfl, rfl⟩
theorem aslAbs (a : Word) : Statement (.aslAbs a) := ⟨rfl, rfl⟩
theorem aslZpx (z : Byte) : Statement (.aslZpx z) := ⟨rfl, rfl⟩
theorem aslAbx (a : Word) : Statement (.aslAbx a) := ⟨rfl, rfl⟩
theorem lsrZp (z : Byte) : Statement (.lsrZp z) := ⟨rfl, rfl⟩
theorem lsrAcc : Statement (.lsrAcc) := ⟨rfl, rfl⟩
theorem lsrAbs (a : Word) : Statement (.lsrAbs a) := ⟨rfl, rfl⟩
theorem lsrZpx (z : Byte) : Statement (.lsrZpx z) := ⟨rfl, rfl⟩
theorem lsrAbx (a : Word) : Statement (.lsrAbx a) := ⟨rfl, rfl⟩
theorem rolZp (z : Byte) : Statement (.rolZp z) := ⟨rfl, rfl⟩
theorem rolAcc : Statement (.rolAcc) := ⟨rfl, rfl⟩
theorem rolAbs (a : Word) : Statement (.rolAbs a) := ⟨rfl, rfl⟩
theorem rolZpx (z : Byte) : Statement (.rolZpx z) := ⟨rfl, rfl⟩
theorem rolAbx (a : Word) : Statement (.rolAbx a) := ⟨rfl, rfl⟩
theorem rorZp (z : Byte) : Statement (.rorZp z) := ⟨rfl, rfl⟩
theorem rorAcc : Statement (.rorAcc) := ⟨rfl, rfl⟩
theorem rorAbs (a : Word) : Statement (.rorAbs a) := ⟨rfl, rfl⟩
theorem rorZpx (z : Byte) : Statement (.rorZpx z) := ⟨rfl, rfl⟩
theorem rorAbx (a : Word) : Statement (.rorAbx a) := ⟨rfl, rfl⟩
theorem jmpAbs (a : Word) : Statement (.jmpAbs a) := ⟨rfl, rfl⟩
theorem jmpInd (a : Word) : Statement (.jmpInd a) := ⟨rfl, rfl⟩
theorem jsrAbs (a : Word) : Statement (.jsrAbs a) := ⟨rfl, rfl⟩
theorem rts : Statement (.rts) := ⟨rfl, rfl⟩
theorem rti : Statement (.rti) := ⟨rfl, rfl⟩
theorem brk : Statement (.brk) := ⟨rfl, rfl⟩
theorem bcc (d : Byte) : Statement (.bcc d) := ⟨rfl, rfl⟩
theorem bcs (d : Byte) : Statement (.bcs d) := ⟨rfl, rfl⟩
theorem beq (d : Byte) : Statement (.beq d) := ⟨rfl, rfl⟩
theorem bne (d : Byte) : Statement (.bne d) := ⟨rfl, rfl⟩
theorem bmi (d : Byte) : Statement (.bmi d) := ⟨rfl, rfl⟩
theorem bpl (d : Byte) : Statement (.bpl d) := ⟨rfl, rfl⟩
theorem bvc (d : Byte) : Statement (.bvc d) := ⟨rfl, rfl⟩
theorem bvs (d : Byte) : Statement (.bvs d) := ⟨rfl, rfl⟩
theorem clc : Statement (.clc) := ⟨rfl, rfl⟩
theorem sec : Statement (.sec) := ⟨rfl, rfl⟩
theorem cli : Statement (.cli) := ⟨rfl, rfl⟩
theorem sei : Statement (.sei) := ⟨rfl, rfl⟩
theorem clv : Statement (.clv) := ⟨rfl, rfl⟩
theorem cld : Statement (.cld) := ⟨rfl, rfl⟩
theorem sed : Statement (.sed) := ⟨rfl, rfl⟩
theorem nop : Statement (.nop) := ⟨rfl, rfl⟩
theorem laxIzx (z : Byte) : Statement (.laxIzx z) := ⟨rfl, rfl⟩
theorem laxZp (z : Byte) : Statement (.laxZp z) := ⟨rfl, rfl⟩
theorem laxAbs (a : Word) : Statement (.laxAbs a) := ⟨rfl, rfl⟩
theorem laxIzy (z : Byte) : Statement (.laxIzy z) := ⟨rfl, rfl⟩
theorem laxZpy (z : Byte) : Statement (.laxZpy z) := ⟨rfl, rfl⟩
theorem laxAby (a : Word) : Statement (.laxAby a) := ⟨rfl, rfl⟩
theorem saxIzx (z : Byte) : Statement (.saxIzx z) := ⟨rfl, rfl⟩
theorem saxZp (z : Byte) : Statement (.saxZp z) := ⟨rfl, rfl⟩
theorem saxAbs (a : Word) : Statement (.saxAbs a) := ⟨rfl, rfl⟩
theorem saxZpy (z : Byte) : Statement (.saxZpy z) := ⟨rfl, rfl⟩
theorem dcpIzx (z : Byte) : Statement (.dcpIzx z) := ⟨rfl, rfl⟩
theorem dcpZp (z : Byte) : Statement (.dcpZp z) := ⟨rfl, rfl⟩
theorem dcpAbs (a : Word) : Statement (.dcpAbs a) := ⟨rfl, rfl⟩
theorem dcpIzy (z : Byte) : Statement (.dcpIzy z) := ⟨rfl, rfl⟩
theorem dcpZpx (z : Byte) : Statement (.dcpZpx z) := ⟨rfl, rfl⟩
theorem dcpAby (a : Word) : Statement (.dcpAby a) := ⟨rfl, rfl⟩
theorem dcpAbx (a : Word) : Statement (.dcpAbx a) := ⟨rfl, rfl⟩
theorem iscIzx (z : Byte) : Statement (.iscIzx z) := ⟨rfl, rfl⟩
theorem iscZp (z : Byte) : Statement (.iscZp z) := ⟨rfl, rfl⟩
theorem iscAbs (a : Word) : Statement (.iscAbs a) := ⟨rfl, rfl⟩
theorem iscIzy (z : Byte) : Statement (.iscIzy z) := ⟨rfl, rfl⟩
theorem iscZpx (z : Byte) : Statement (.iscZpx z) := ⟨rfl, rfl⟩
theorem iscAby (a : Word) : Statement (.iscAby a) := ⟨rfl, rfl⟩
theorem iscAbx (a : Word) : Statement (.iscAbx a) := ⟨rfl, rfl⟩
theorem sloIzx (z : Byte) : Statement (.sloIzx z) := ⟨rfl, rfl⟩
theorem sloZp (z : Byte) : Statement (.sloZp z) := ⟨rfl, rfl⟩
theorem sloAbs (a : Word) : Statement (.sloAbs a) := ⟨rfl, rfl⟩
theorem sloIzy (z : Byte) : Statement (.sloIzy z) := ⟨rfl, rfl⟩
theorem sloZpx (z : Byte) : Statement (.sloZpx z) := ⟨rfl, rfl⟩
theorem sloAby (a : Word) : Statement (.sloAby a) := ⟨rfl, rfl⟩
theorem sloAbx (a : Word) : Statement (.sloAbx a) := ⟨rfl, rfl⟩
theorem rlaIzx (z : Byte) : Statement (.rlaIzx z) := ⟨rfl, rfl⟩
theorem rlaZp (z : Byte) : Statement (.rlaZp z) := ⟨rfl, rfl⟩
theorem rlaAbs (a : Word) : Statement (.rlaAbs a) := ⟨rfl, rfl⟩
theorem rlaIzy (z : Byte) : Statement (.rlaIzy z) := ⟨rfl, rfl⟩
theorem rlaZpx (z : Byte) : Statement (.rlaZpx z) := ⟨rfl, rfl⟩
theorem rlaAby (a : Word) : Statement (.rlaAby a) := ⟨rfl, rfl⟩
theorem rlaAbx (a : Word) : Statement (.rlaAbx a) := ⟨rfl, rfl⟩
theorem sreIzx (z : Byte) : Statement (.sreIzx z) := ⟨rfl, rfl⟩
theorem sreZp (z : Byte) : Statement (.sreZp z) := ⟨rfl, rfl⟩
theorem sreAbs (a : Word) : Statement (.sreAbs a) := ⟨rfl, rfl⟩
theorem sreIzy (z : Byte) : Statement (.sreIzy z) := ⟨rfl, rfl⟩
theorem sreZpx (z : Byte) : Statement (.sreZpx z) := ⟨rfl, rfl⟩
theorem sreAby (a : Word) : Statement (.sreAby a) := ⟨rfl, rfl⟩
theorem sreAbx (a : Word) : Statement (.sreAbx a) := ⟨rfl, rfl⟩
theorem rraIzx (z : Byte) : Statement (.rraIzx z) := ⟨rfl, rfl⟩
theorem rraZp (z : Byte) : Statement (.rraZp z) := ⟨rfl, rfl⟩
theorem rraAbs (a : Word) : Statement (.rraAbs a) := ⟨rfl, rfl⟩
theorem rraIzy (z : Byte) : Statement (.rraIzy z) := ⟨rfl, rfl⟩
theorem rraZpx (z : Byte) : Statement (.rraZpx z) := ⟨rfl, rfl⟩
theorem rraAby (a : Word) : Statement (.rraAby a) := ⟨rfl, rfl⟩
theorem rraAbx (a : Word) : Statement (.rraAbx a) := ⟨rfl, rfl⟩
theorem ancImm0B (v : Byte) : Statement (.ancImm0B v) := ⟨rfl, rfl⟩
theorem ancImm2B (v : Byte) : Statement (.ancImm2B v) := ⟨rfl, rfl⟩
theorem alrImm (v : Byte) : Statement (.alrImm v) := ⟨rfl, rfl⟩
theorem arrImm (v : Byte) : Statement (.arrImm v) := ⟨rfl, rfl⟩
theorem sbxImm (v : Byte) : Statement (.sbxImm v) := ⟨rfl, rfl⟩
theorem aneImm (v : Byte) : Statement (.aneImm v) := ⟨rfl, rfl⟩
theorem lasAby (a : Word) : Statement (.lasAby a) := ⟨rfl, rfl⟩
theorem shaIzy (z : Byte) : Statement (.shaIzy z) := ⟨rfl, rfl⟩
theorem shaAby (a : Word) : Statement (.shaAby a) := ⟨rfl, rfl⟩
theorem shxAby (a : Word) : Statement (.shxAby a) := ⟨rfl, rfl⟩
theorem shyAbx (a : Word) : Statement (.shyAbx a) := ⟨rfl, rfl⟩
theorem tasAby (a : Word) : Statement (.tasAby a) := ⟨rfl, rfl⟩
theorem nopZp04 (z : Byte) : Statement (.nopZp04 z) := ⟨rfl, rfl⟩
theorem nopAbs0C (a : Word) : Statement (.nopAbs0C a) := ⟨rfl, rfl⟩
theorem nopZpx14 (z : Byte) : Statement (.nopZpx14 z) := ⟨rfl, rfl⟩
theorem nop1A : Statement (.nop1A) := ⟨rfl, rfl⟩
theorem nopAbx1C (a : Word) : Statement (.nopAbx1C a) := ⟨rfl, rfl⟩
theorem nopZpx34 (z : Byte) : Statement (.nopZpx34 z) := ⟨rfl, rfl⟩
theorem nop3A : Statement (.nop3A) := ⟨rfl, rfl⟩
theorem nopAbx3C (a : Word) : Statement (.nopAbx3C a) := ⟨rfl, rfl⟩
theorem nopZp44 (z : Byte) : Statement (.nopZp44 z) := ⟨rfl, rfl⟩
theorem nopZpx54 (z : Byte) : Statement (.nopZpx54 z) := ⟨rfl, rfl⟩
theorem nop5A : Statement (.nop5A) := ⟨rfl, rfl⟩
theorem nopAbx5C (a : Word) : Statement (.nopAbx5C a) := ⟨rfl, rfl⟩
theorem nopZp64 (z : Byte) : Statement (.nopZp64 z) := ⟨rfl, rfl⟩
theorem nopZpx74 (z : Byte) : Statement (.nopZpx74 z) := ⟨rfl, rfl⟩
theorem nop7A : Statement (.nop7A) := ⟨rfl, rfl⟩
theorem nopAbx7C (a : Word) : Statement (.nopAbx7C a) := ⟨rfl, rfl⟩
theorem nopImm80 (v : Byte) : Statement (.nopImm80 v) := ⟨rfl, rfl⟩
theorem nopImm82 (v : Byte) : Statement (.nopImm82 v) := ⟨rfl, rfl⟩
theorem nopImm89 (v : Byte) : Statement (.nopImm89 v) := ⟨rfl, rfl⟩
theorem nopImmC2 (v : Byte) : Statement (.nopImmC2 v) := ⟨rfl, rfl⟩
theorem nopZpxD4 (z : Byte) : Statement (.nopZpxD4 z) := ⟨rfl, rfl⟩
theorem nopDA : Statement (.nopDA) := ⟨rfl, rfl⟩
theorem nopAbxDC (a : Word) : Statement (.nopAbxDC a) := ⟨rfl, rfl⟩
theorem nopImmE2 (v : Byte) : Statement (.nopImmE2 v) := ⟨rfl, rfl⟩
theorem sbcImmEB (v : Byte) : Statement (.sbcImmEB v) := ⟨rfl, rfl⟩
theorem nopZpxF4 (z : Byte) : Statement (.nopZpxF4 z) := ⟨rfl, rfl⟩
theorem nopFA : Statement (.nopFA) := ⟨rfl, rfl⟩
theorem nopAbxFC (a : Word) : Statement (.nopAbxFC a) := ⟨rfl, rfl⟩
theorem illegal02 : Statement (.illegal02) := ⟨rfl, rfl⟩
theorem illegal12 : Statement (.illegal12) := ⟨rfl, rfl⟩
theorem illegal22 : Statement (.illegal22) := ⟨rfl, rfl⟩
theorem illegal32 : Statement (.illegal32) := ⟨rfl, rfl⟩
theorem illegal42 : Statement (.illegal42) := ⟨rfl, rfl⟩
theorem illegal52 : Statement (.illegal52) := ⟨rfl, rfl⟩
theorem illegal62 : Statement (.illegal62) := ⟨rfl, rfl⟩
theorem illegal72 : Statement (.illegal72) := ⟨rfl, rfl⟩
theorem illegal92 : Statement (.illegal92) := ⟨rfl, rfl⟩
theorem illegalAB : Statement (.illegalAB) := ⟨rfl, rfl⟩
theorem illegalB2 : Statement (.illegalB2) := ⟨rfl, rfl⟩
theorem illegalD2 : Statement (.illegalD2) := ⟨rfl, rfl⟩
theorem illegalF2 : Statement (.illegalF2) := ⟨rfl, rfl⟩

end Sys2Proof.Laws.Shape
end

