-- ==== Sys2Proof/Tests/Slice0.lean ====
section
/-! SUPPORT. Tests with expected values from the spec (its vectors are named A1 to M20, its rules R<n>), and a witness for
the hypotheses of each obligation. -/

namespace Sys2Proof.Tests

open Sys2Proof Sys2Proof.Machine

set_option Elab.async false

/-! ## Well-formedness -/

theorem test_illformed_illegal : ∀ x : Bool, Instr.illegal02.wellFormed x = false ∧ Instr.illegalAB.wellFormed x = false := by
  decide

theorem test_illformed_extra : ∀ v : Byte, (Instr.sbcImmEB v).wellFormed false = false ∧
    (Instr.sbcImmEB v).wellFormed true = true := fun _ => ⟨rfl, rfl⟩

theorem test_wellformed : ∀ x : Bool, Instr.brk.wellFormed x = true ∧ (Instr.aneImm 0).wellFormed x = true := by decide

/-! ## Decoding: the 256 words of spec/opcode_table.json, operand bytes 0x34 0x12 (R141) -/

/-- Opcodes `0x00` to `0x0F` with the instruction each stands for. -/
def words0 : List (List Byte × Instr) := [
  ([0x00, 0xEA], .brk), ([0x01, 0x34], .oraIzx 0x34), ([0x02], .illegal02), ([0x03, 0x34], .sloIzx 0x34),
  ([0x04, 0x34], .nopZp04 0x34), ([0x05, 0x34], .oraZp 0x34), ([0x06, 0x34], .aslZp 0x34),
  ([0x07, 0x34], .sloZp 0x34), ([0x08], .php), ([0x09, 0x34], .oraImm 0x34), ([0x0A], .aslAcc),
  ([0x0B, 0x34], .ancImm0B 0x34), ([0x0C, 0x34, 0x12], .nopAbs0C 0x1234), ([0x0D, 0x34, 0x12], .oraAbs 0x1234),
  ([0x0E, 0x34, 0x12], .aslAbs 0x1234), ([0x0F, 0x34, 0x12], .sloAbs 0x1234)]

/-- Opcodes `0x10` to `0x1F` with the instruction each stands for. -/
def words1 : List (List Byte × Instr) := [
  ([0x10, 0x34], .bpl 0x34), ([0x11, 0x34], .oraIzy 0x34), ([0x12], .illegal12), ([0x13, 0x34], .sloIzy 0x34),
  ([0x14, 0x34], .nopZpx14 0x34), ([0x15, 0x34], .oraZpx 0x34), ([0x16, 0x34], .aslZpx 0x34),
  ([0x17, 0x34], .sloZpx 0x34), ([0x18], .clc), ([0x19, 0x34, 0x12], .oraAby 0x1234), ([0x1A], .nop1A),
  ([0x1B, 0x34, 0x12], .sloAby 0x1234), ([0x1C, 0x34, 0x12], .nopAbx1C 0x1234), ([0x1D, 0x34, 0x12], .oraAbx 0x1234),
  ([0x1E, 0x34, 0x12], .aslAbx 0x1234), ([0x1F, 0x34, 0x12], .sloAbx 0x1234)]

/-- Opcodes `0x20` to `0x2F` with the instruction each stands for. -/
def words2 : List (List Byte × Instr) := [
  ([0x20, 0x34, 0x12], .jsrAbs 0x1234), ([0x21, 0x34], .andIzx 0x34), ([0x22], .illegal22),
  ([0x23, 0x34], .rlaIzx 0x34), ([0x24, 0x34], .bitZp 0x34), ([0x25, 0x34], .andZp 0x34),
  ([0x26, 0x34], .rolZp 0x34), ([0x27, 0x34], .rlaZp 0x34), ([0x28], .plp), ([0x29, 0x34], .andImm 0x34),
  ([0x2A], .rolAcc), ([0x2B, 0x34], .ancImm2B 0x34), ([0x2C, 0x34, 0x12], .bitAbs 0x1234),
  ([0x2D, 0x34, 0x12], .andAbs 0x1234), ([0x2E, 0x34, 0x12], .rolAbs 0x1234), ([0x2F, 0x34, 0x12], .rlaAbs 0x1234)]

/-- Opcodes `0x30` to `0x3F` with the instruction each stands for. -/
def words3 : List (List Byte × Instr) := [
  ([0x30, 0x34], .bmi 0x34), ([0x31, 0x34], .andIzy 0x34), ([0x32], .illegal32), ([0x33, 0x34], .rlaIzy 0x34),
  ([0x34, 0x34], .nopZpx34 0x34), ([0x35, 0x34], .andZpx 0x34), ([0x36, 0x34], .rolZpx 0x34),
  ([0x37, 0x34], .rlaZpx 0x34), ([0x38], .sec), ([0x39, 0x34, 0x12], .andAby 0x1234), ([0x3A], .nop3A),
  ([0x3B, 0x34, 0x12], .rlaAby 0x1234), ([0x3C, 0x34, 0x12], .nopAbx3C 0x1234), ([0x3D, 0x34, 0x12], .andAbx 0x1234),
  ([0x3E, 0x34, 0x12], .rolAbx 0x1234), ([0x3F, 0x34, 0x12], .rlaAbx 0x1234)]

/-- Opcodes `0x40` to `0x4F` with the instruction each stands for. -/
def words4 : List (List Byte × Instr) := [
  ([0x40], .rti), ([0x41, 0x34], .eorIzx 0x34), ([0x42], .illegal42), ([0x43, 0x34], .sreIzx 0x34),
  ([0x44, 0x34], .nopZp44 0x34), ([0x45, 0x34], .eorZp 0x34), ([0x46, 0x34], .lsrZp 0x34),
  ([0x47, 0x34], .sreZp 0x34), ([0x48], .pha), ([0x49, 0x34], .eorImm 0x34), ([0x4A], .lsrAcc),
  ([0x4B, 0x34], .alrImm 0x34), ([0x4C, 0x34, 0x12], .jmpAbs 0x1234), ([0x4D, 0x34, 0x12], .eorAbs 0x1234),
  ([0x4E, 0x34, 0x12], .lsrAbs 0x1234), ([0x4F, 0x34, 0x12], .sreAbs 0x1234)]

/-- Opcodes `0x50` to `0x5F` with the instruction each stands for. -/
def words5 : List (List Byte × Instr) := [
  ([0x50, 0x34], .bvc 0x34), ([0x51, 0x34], .eorIzy 0x34), ([0x52], .illegal52), ([0x53, 0x34], .sreIzy 0x34),
  ([0x54, 0x34], .nopZpx54 0x34), ([0x55, 0x34], .eorZpx 0x34), ([0x56, 0x34], .lsrZpx 0x34),
  ([0x57, 0x34], .sreZpx 0x34), ([0x58], .cli), ([0x59, 0x34, 0x12], .eorAby 0x1234), ([0x5A], .nop5A),
  ([0x5B, 0x34, 0x12], .sreAby 0x1234), ([0x5C, 0x34, 0x12], .nopAbx5C 0x1234), ([0x5D, 0x34, 0x12], .eorAbx 0x1234),
  ([0x5E, 0x34, 0x12], .lsrAbx 0x1234), ([0x5F, 0x34, 0x12], .sreAbx 0x1234)]

/-- Opcodes `0x60` to `0x6F` with the instruction each stands for. -/
def words6 : List (List Byte × Instr) := [
  ([0x60], .rts), ([0x61, 0x34], .adcIzx 0x34), ([0x62], .illegal62), ([0x63, 0x34], .rraIzx 0x34),
  ([0x64, 0x34], .nopZp64 0x34), ([0x65, 0x34], .adcZp 0x34), ([0x66, 0x34], .rorZp 0x34),
  ([0x67, 0x34], .rraZp 0x34), ([0x68], .pla), ([0x69, 0x34], .adcImm 0x34), ([0x6A], .rorAcc),
  ([0x6B, 0x34], .arrImm 0x34), ([0x6C, 0x34, 0x12], .jmpInd 0x1234), ([0x6D, 0x34, 0x12], .adcAbs 0x1234),
  ([0x6E, 0x34, 0x12], .rorAbs 0x1234), ([0x6F, 0x34, 0x12], .rraAbs 0x1234)]

/-- Opcodes `0x70` to `0x7F` with the instruction each stands for. -/
def words7 : List (List Byte × Instr) := [
  ([0x70, 0x34], .bvs 0x34), ([0x71, 0x34], .adcIzy 0x34), ([0x72], .illegal72), ([0x73, 0x34], .rraIzy 0x34),
  ([0x74, 0x34], .nopZpx74 0x34), ([0x75, 0x34], .adcZpx 0x34), ([0x76, 0x34], .rorZpx 0x34),
  ([0x77, 0x34], .rraZpx 0x34), ([0x78], .sei), ([0x79, 0x34, 0x12], .adcAby 0x1234), ([0x7A], .nop7A),
  ([0x7B, 0x34, 0x12], .rraAby 0x1234), ([0x7C, 0x34, 0x12], .nopAbx7C 0x1234), ([0x7D, 0x34, 0x12], .adcAbx 0x1234),
  ([0x7E, 0x34, 0x12], .rorAbx 0x1234), ([0x7F, 0x34, 0x12], .rraAbx 0x1234)]

/-- Opcodes `0x80` to `0x8F` with the instruction each stands for. -/
def words8 : List (List Byte × Instr) := [
  ([0x80, 0x34], .nopImm80 0x34), ([0x81, 0x34], .staIzx 0x34), ([0x82, 0x34], .nopImm82 0x34),
  ([0x83, 0x34], .saxIzx 0x34), ([0x84, 0x34], .styZp 0x34), ([0x85, 0x34], .staZp 0x34),
  ([0x86, 0x34], .stxZp 0x34), ([0x87, 0x34], .saxZp 0x34), ([0x88], .dey), ([0x89, 0x34], .nopImm89 0x34),
  ([0x8A], .txa), ([0x8B, 0x34], .aneImm 0x34), ([0x8C, 0x34, 0x12], .styAbs 0x1234),
  ([0x8D, 0x34, 0x12], .staAbs 0x1234), ([0x8E, 0x34, 0x12], .stxAbs 0x1234), ([0x8F, 0x34, 0x12], .saxAbs 0x1234)]

/-- Opcodes `0x90` to `0x9F` with the instruction each stands for. -/
def words9 : List (List Byte × Instr) := [
  ([0x90, 0x34], .bcc 0x34), ([0x91, 0x34], .staIzy 0x34), ([0x92], .illegal92), ([0x93, 0x34], .shaIzy 0x34),
  ([0x94, 0x34], .styZpx 0x34), ([0x95, 0x34], .staZpx 0x34), ([0x96, 0x34], .stxZpy 0x34),
  ([0x97, 0x34], .saxZpy 0x34), ([0x98], .tya), ([0x99, 0x34, 0x12], .staAby 0x1234), ([0x9A], .txs),
  ([0x9B, 0x34, 0x12], .tasAby 0x1234), ([0x9C, 0x34, 0x12], .shyAbx 0x1234), ([0x9D, 0x34, 0x12], .staAbx 0x1234),
  ([0x9E, 0x34, 0x12], .shxAby 0x1234), ([0x9F, 0x34, 0x12], .shaAby 0x1234)]

/-- Opcodes `0xA0` to `0xAF` with the instruction each stands for. -/
def wordsA : List (List Byte × Instr) := [
  ([0xA0, 0x34], .ldyImm 0x34), ([0xA1, 0x34], .ldaIzx 0x34), ([0xA2, 0x34], .ldxImm 0x34),
  ([0xA3, 0x34], .laxIzx 0x34), ([0xA4, 0x34], .ldyZp 0x34), ([0xA5, 0x34], .ldaZp 0x34),
  ([0xA6, 0x34], .ldxZp 0x34), ([0xA7, 0x34], .laxZp 0x34), ([0xA8], .tay), ([0xA9, 0x34], .ldaImm 0x34),
  ([0xAA], .tax), ([0xAB], .illegalAB), ([0xAC, 0x34, 0x12], .ldyAbs 0x1234), ([0xAD, 0x34, 0x12], .ldaAbs 0x1234),
  ([0xAE, 0x34, 0x12], .ldxAbs 0x1234), ([0xAF, 0x34, 0x12], .laxAbs 0x1234)]

/-- Opcodes `0xB0` to `0xBF` with the instruction each stands for. -/
def wordsB : List (List Byte × Instr) := [
  ([0xB0, 0x34], .bcs 0x34), ([0xB1, 0x34], .ldaIzy 0x34), ([0xB2], .illegalB2), ([0xB3, 0x34], .laxIzy 0x34),
  ([0xB4, 0x34], .ldyZpx 0x34), ([0xB5, 0x34], .ldaZpx 0x34), ([0xB6, 0x34], .ldxZpy 0x34),
  ([0xB7, 0x34], .laxZpy 0x34), ([0xB8], .clv), ([0xB9, 0x34, 0x12], .ldaAby 0x1234), ([0xBA], .tsx),
  ([0xBB, 0x34, 0x12], .lasAby 0x1234), ([0xBC, 0x34, 0x12], .ldyAbx 0x1234), ([0xBD, 0x34, 0x12], .ldaAbx 0x1234),
  ([0xBE, 0x34, 0x12], .ldxAby 0x1234), ([0xBF, 0x34, 0x12], .laxAby 0x1234)]

/-- Opcodes `0xC0` to `0xCF` with the instruction each stands for. -/
def wordsC : List (List Byte × Instr) := [
  ([0xC0, 0x34], .cpyImm 0x34), ([0xC1, 0x34], .cmpIzx 0x34), ([0xC2, 0x34], .nopImmC2 0x34),
  ([0xC3, 0x34], .dcpIzx 0x34), ([0xC4, 0x34], .cpyZp 0x34), ([0xC5, 0x34], .cmpZp 0x34),
  ([0xC6, 0x34], .decZp 0x34), ([0xC7, 0x34], .dcpZp 0x34), ([0xC8], .iny), ([0xC9, 0x34], .cmpImm 0x34),
  ([0xCA], .dex), ([0xCB, 0x34], .sbxImm 0x34), ([0xCC, 0x34, 0x12], .cpyAbs 0x1234),
  ([0xCD, 0x34, 0x12], .cmpAbs 0x1234), ([0xCE, 0x34, 0x12], .decAbs 0x1234), ([0xCF, 0x34, 0x12], .dcpAbs 0x1234)]

/-- Opcodes `0xD0` to `0xDF` with the instruction each stands for. -/
def wordsD : List (List Byte × Instr) := [
  ([0xD0, 0x34], .bne 0x34), ([0xD1, 0x34], .cmpIzy 0x34), ([0xD2], .illegalD2), ([0xD3, 0x34], .dcpIzy 0x34),
  ([0xD4, 0x34], .nopZpxD4 0x34), ([0xD5, 0x34], .cmpZpx 0x34), ([0xD6, 0x34], .decZpx 0x34),
  ([0xD7, 0x34], .dcpZpx 0x34), ([0xD8], .cld), ([0xD9, 0x34, 0x12], .cmpAby 0x1234), ([0xDA], .nopDA),
  ([0xDB, 0x34, 0x12], .dcpAby 0x1234), ([0xDC, 0x34, 0x12], .nopAbxDC 0x1234), ([0xDD, 0x34, 0x12], .cmpAbx 0x1234),
  ([0xDE, 0x34, 0x12], .decAbx 0x1234), ([0xDF, 0x34, 0x12], .dcpAbx 0x1234)]

/-- Opcodes `0xE0` to `0xEF` with the instruction each stands for. -/
def wordsE : List (List Byte × Instr) := [
  ([0xE0, 0x34], .cpxImm 0x34), ([0xE1, 0x34], .sbcIzx 0x34), ([0xE2, 0x34], .nopImmE2 0x34),
  ([0xE3, 0x34], .iscIzx 0x34), ([0xE4, 0x34], .cpxZp 0x34), ([0xE5, 0x34], .sbcZp 0x34),
  ([0xE6, 0x34], .incZp 0x34), ([0xE7, 0x34], .iscZp 0x34), ([0xE8], .inx), ([0xE9, 0x34], .sbcImm 0x34),
  ([0xEA], .nop), ([0xEB, 0x34], .sbcImmEB 0x34), ([0xEC, 0x34, 0x12], .cpxAbs 0x1234),
  ([0xED, 0x34, 0x12], .sbcAbs 0x1234), ([0xEE, 0x34, 0x12], .incAbs 0x1234), ([0xEF, 0x34, 0x12], .iscAbs 0x1234)]

/-- Opcodes `0xF0` to `0xFF` with the instruction each stands for. -/
def wordsF : List (List Byte × Instr) := [
  ([0xF0, 0x34], .beq 0x34), ([0xF1, 0x34], .sbcIzy 0x34), ([0xF2], .illegalF2), ([0xF3, 0x34], .iscIzy 0x34),
  ([0xF4, 0x34], .nopZpxF4 0x34), ([0xF5, 0x34], .sbcZpx 0x34), ([0xF6, 0x34], .incZpx 0x34),
  ([0xF7, 0x34], .iscZpx 0x34), ([0xF8], .sed), ([0xF9, 0x34, 0x12], .sbcAby 0x1234), ([0xFA], .nopFA),
  ([0xFB, 0x34, 0x12], .iscAby 0x1234), ([0xFC, 0x34, 0x12], .nopAbxFC 0x1234), ([0xFD, 0x34, 0x12], .sbcAbx 0x1234),
  ([0xFE, 0x34, 0x12], .incAbx 0x1234), ([0xFF, 0x34, 0x12], .iscAbx 0x1234)]

/-- Whether each word decodes to its instruction with nothing left. -/
def decodes (l : List (List Byte × Instr)) : Bool := l.all fun p =>
  match decode p.1 with
  | .ok r => decide (r = (p.2, []))
  | .error _ => false

theorem test_decode_0 : decodes words0 = true := by decide +kernel
theorem test_decode_1 : decodes words1 = true := by decide +kernel
theorem test_decode_2 : decodes words2 = true := by decide +kernel
theorem test_decode_3 : decodes words3 = true := by decide +kernel
theorem test_decode_4 : decodes words4 = true := by decide +kernel
theorem test_decode_5 : decodes words5 = true := by decide +kernel
theorem test_decode_6 : decodes words6 = true := by decide +kernel
theorem test_decode_7 : decodes words7 = true := by decide +kernel
theorem test_decode_8 : decodes words8 = true := by decide +kernel
theorem test_decode_9 : decodes words9 = true := by decide +kernel
theorem test_decode_A : decodes wordsA = true := by decide +kernel
theorem test_decode_B : decodes wordsB = true := by decide +kernel
theorem test_decode_C : decodes wordsC = true := by decide +kernel
theorem test_decode_D : decodes wordsD = true := by decide +kernel
theorem test_decode_E : decodes wordsE = true := by decide +kernel
theorem test_decode_F : decodes wordsF = true := by decide +kernel

theorem test_decode_short : decode [] = .error .noBytes ∧ decode [0xA9] = .error (.truncated 0xA9) ∧
    decode [0x8D, 0x34] = .error (.truncated 0x8D) ∧ decode [0x00] = .ok (.brk, []) :=
  ⟨rfl, rfl, rfl, rfl⟩


/-! ## States for one step -/

/-- The state before a vector of group A to H: code at `pc` in RAM (R83), A, X, Y, S, the flags of a status byte (R28), and bytes
of RAM set. -/
def start (pc : Nat) (code : List Byte) (a x y sp p : Byte) (mem : List (Nat × Byte)) : State :=
  { State.reset with
    cpu := { State.reset.cpu with
      a := a, x := x, y := y, s := sp, pc := BitVec.ofNat 16 pc, p := Flags.reset.setStatus p }
    bus := { State.reset.bus with ram := mem.foldl (fun m c => m.write c.1 c.2) (Memory.ofBytes pc code) } }

/-- The vector's usual start: code at `0x0200`, `S` = `0xFD`. -/
def usual (code : List Byte) (a x y p : Byte) (mem : List (Nat × Byte)) : State := start 0x200 code a x y 0xFD p mem

/-- What a vector gives: A, X, Y, S and `StatusByte(0)`; `PC`; cycles; bytes of RAM. -/
abbrev Seen := List Byte × Nat × Nat × List Byte

/-- The end of one step from `s`, with the RAM bytes at `at'`. -/
def after (s : State) (at' : List Nat) : Option Seen :=
  match step s with
  | .next t => some ([t.cpu.a, t.cpu.x, t.cpu.y, t.cpu.s, t.cpu.p.statusByte false], t.cpu.pc.toNat,
      t.cpu.cycles - s.cpu.cycles, at'.map t.bus.ram.read)
  | .fault _ => none
  | .refused _ => none

/-- The fault record that one step stops with, with `PC` and cycles. -/
def stops (s : State) : Option (FaultRecord × Nat × Nat) :=
  match step s with
  | .fault f => some (f.record, f.stopped.cpu.pc.toNat, f.stopped.cpu.cycles)
  | .next _ => none
  | .refused _ => none

/-! ## Loads and stores (group A) -/

theorem test_lda : after (usual [0xA9, 0x00] 0x55 0 0 0x20 []) [] = some ([0, 0, 0, 0xFD, 0x22], 0x202, 2, []) ∧ -- A1
    after (usual [0xB1, 0xFF] 0 0 0x10 0x20 [(0xFF, 0x80), (0x00, 0x12), (0x290, 0x33)]) [] = -- A5
      some ([0x33, 0, 0x10, 0xFD, 0x20], 0x202, 5, []) := by decide +kernel

theorem test_lda_page : after (usual [0xBD, 0xFF, 0x10] 0 1 0 0x20 [(0x100, 0x7F)]) [] = -- A3
      some ([0x7F, 1, 0, 0xFD, 0x20], 0x203, 5, []) ∧
    after (usual [0xBD, 0xFE, 0x10] 0 1 0 0x20 [(0xFF, 0x7F)]) [] = -- A4
      some ([0x7F, 1, 0, 0xFD, 0x20], 0x203, 4, []) := by decide +kernel

theorem test_ldx : after (usual [0xB6, 0xF0] 0 0 0x20 0x20 [(0x10, 0x42)]) [] = -- A7
    some ([0, 0x42, 0x20, 0xFD, 0x20], 0x202, 4, []) := by decide +kernel

theorem test_ldy : after (usual [0xAC, 0x10, 0x00] 0 0 0 0x22 [(0x10, 0x80)]) [] = -- R203
    some ([0, 0, 0x80, 0xFD, 0xA0], 0x203, 4, []) := by decide +kernel

theorem test_sta : after (usual [0x9D, 0xF0, 0x12] 0xAB 0x20 0 0xA0 []) [0x310] = -- A8
      some ([0xAB, 0x20, 0, 0xFD, 0xA0], 0x203, 5, [0xAB]) ∧
    after (usual [0x91, 0x40] 0x77 0 1 0x20 [(0x40, 0xFF), (0x41, 0x02)]) [0x300] = -- A9
      some ([0x77, 0, 1, 0xFD, 0x20], 0x202, 6, [0x77]) := by decide +kernel

theorem test_stx : after (usual [0x96, 0xFF] 0 0x66 2 0x20 []) [1] = -- A10
    some ([0, 0x66, 2, 0xFD, 0x20], 0x202, 4, [0x66]) := by decide +kernel

theorem test_sty : after (usual [0x94, 0x10] 0 1 0 0x20 [(0x11, 0x55)]) [0x11] = -- R206: storing zero does not set Z
    some ([0, 1, 0, 0xFD, 0x20], 0x202, 4, [0]) := by decide +kernel

/-! ## Transfers and stack (group B) -/

theorem test_tax : after (usual [0xAA] 0 5 0 0x20 []) [] = some ([0, 0, 0, 0xFD, 0x22], 0x201, 2, []) := by decide +kernel -- B1

theorem test_tay : after (usual [0xA8] 0x80 0 0 0x22 []) [] = some ([0x80, 0, 0x80, 0xFD, 0xA0], 0x201, 2, []) := by
  decide +kernel -- R222

theorem test_txa : after (usual [0x8A] 1 0x7F 0 0xA2 []) [] = some ([0x7F, 0x7F, 0, 0xFD, 0x20], 0x201, 2, []) := by
  decide +kernel -- R223

theorem test_tya : after (usual [0x98] 1 2 0 0x20 []) [] = some ([0, 2, 0, 0xFD, 0x22], 0x201, 2, []) := by decide +kernel -- R224

theorem test_tsx : after (usual [0xBA] 0 0 0 0x20 []) [] = some ([0, 0xFD, 0, 0xFD, 0xA0], 0x201, 2, []) := by
  decide +kernel -- B3

theorem test_txs : after (usual [0x9A] 0 0 0 0xA0 []) [] = some ([0, 0, 0, 0, 0xA0], 0x201, 2, []) := by decide +kernel -- B2

theorem test_pha : after (start 0x200 [0x48] 0x12 0 0 0 0x20 []) [0x100] = some ([0x12, 0, 0, 0xFF, 0x20], 0x201, 3, [0x12]) := by
  decide +kernel -- B4

theorem test_php : after (usual [0x08] 0 0 0 0x20 []) [0x1FD] = some ([0, 0, 0, 0xFC, 0x20], 0x201, 3, [0x30]) ∧ -- B5
    after (usual [0x08] 0 0 0 0xA5 []) [0x1FD] = some ([0, 0, 0, 0xFC, 0xA5], 0x201, 3, [0xB5]) := by decide +kernel -- B6

theorem test_pla : after (start 0x200 [0x68] 0 0 0 0xFF 0x20 [(0x100, 0x80)]) [] = some ([0x80, 0, 0, 0, 0xA0], 0x201, 4, []) := by
  decide +kernel -- B7

theorem test_plp : after (start 0x200 [0x28] 0 0 0 0xFC 0x20 [(0x1FD, 0xFF)]) [] = some ([0, 0, 0, 0xFD, 0xEF], 0x201, 4, []) ∧
    after (start 0x200 [0x28] 0 0 0 0xFC 0xEF []) [] = some ([0, 0, 0, 0xFD, 0x20], 0x201, 4, []) := by decide +kernel -- B8, B9

/-! ## Logic and arithmetic (group C) -/

theorem test_adc : after (usual [0x69, 0x01] 0x7F 0 0 0x20 []) [] = some ([0x80, 0, 0, 0xFD, 0xE0], 0x202, 2, []) ∧ -- C1
    after (usual [0x69, 0x01] 0x09 0 0 0x28 []) [] = some ([0x0A, 0, 0, 0xFD, 0x28], 0x202, 2, []) := by decide +kernel -- C4

theorem test_sbc : after (usual [0xE9, 0x01] 0x00 0 0 0x21 []) [] = some ([0xFF, 0, 0, 0xFD, 0xA0], 0x202, 2, []) ∧ -- C5
    after (usual [0xE9, 0x01] 0x80 0 0 0x21 []) [] = some ([0x7F, 0, 0, 0xFD, 0x61], 0x202, 2, []) := by decide +kernel -- C6

theorem test_cmp : after (usual [0xC9, 0x11] 0x10 0 0 0x20 []) [] = some ([0x10, 0, 0, 0xFD, 0xA0], 0x202, 2, []) ∧ -- C10
    after (usual [0xC9, 0x80] 0 0 0 0x60 []) [] = some ([0, 0, 0, 0xFD, 0xE0], 0x202, 2, []) := by decide +kernel -- C11

theorem test_cpx : after (usual [0xE4, 0x10] 0 0xFF 0 0x20 [(0x10, 1)]) [] = some ([0, 0xFF, 0, 0xFD, 0xA1], 0x202, 3, []) := by
  decide +kernel -- C12

theorem test_cpy : after (usual [0xC0, 0x00] 0 0 0 0x20 []) [] = some ([0, 0, 0, 0xFD, 0x23], 0x202, 2, []) := by
  decide +kernel -- C13

theorem test_and : after (usual [0x29, 0x0F] 0xF0 0 0 0x20 []) [] = some ([0, 0, 0, 0xFD, 0x22], 0x202, 2, []) := by
  decide +kernel -- C14

theorem test_ora : after (usual [0x09, 0x80] 1 0 0 0x20 []) [] = some ([0x81, 0, 0, 0xFD, 0xA0], 0x202, 2, []) := by
  decide +kernel -- C15

theorem test_eor : after (usual [0x49, 0xFF] 0xFF 0 0 0x20 []) [] = some ([0, 0, 0, 0xFD, 0x22], 0x202, 2, []) := by
  decide +kernel -- C16

theorem test_bit : after (usual [0x24, 0x10] 1 0 0 0x20 [(0x10, 0xC0)]) [] = some ([1, 0, 0, 0xFD, 0xE2], 0x202, 3, []) ∧ -- C17
    after (usual [0x24, 0x10] 0xFF 0 0 0xE0 [(0x10, 0x3F)]) [] = some ([0xFF, 0, 0, 0xFD, 0x20], 0x202, 3, []) := by
  decide +kernel -- C18

/-! ## Read-modify-write (group D) -/

theorem test_inc : after (usual [0xE6, 0x10] 0 0 0 0x21 [(0x10, 0xFF)]) [0x10] = some ([0, 0, 0, 0xFD, 0x23], 0x202, 5, [0]) := by
  decide +kernel -- D1

theorem test_dec : after (usual [0xDE, 0x00, 0x03] 0 0xFF 0 0x20 []) [0x3FF] =
    some ([0, 0xFF, 0, 0xFD, 0xA0], 0x203, 7, [0xFF]) := by decide +kernel -- D2

theorem test_inx : after (usual [0xE8] 0 0x7F 0 0x20 []) [] = some ([0, 0x80, 0, 0xFD, 0xA0], 0x201, 2, []) := by
  decide +kernel -- D3

theorem test_iny : after (usual [0xC8] 0 0 0xFF 0x21 []) [] = some ([0, 0, 0, 0xFD, 0x23], 0x201, 2, []) := by
  decide +kernel -- R264

theorem test_dex : after (usual [0xCA] 0 0x01 0 0x21 []) [] = some ([0, 0, 0, 0xFD, 0x23], 0x201, 2, []) := by
  decide +kernel -- R265

theorem test_dey : after (usual [0x88] 0 0 0 0x20 []) [] = some ([0, 0, 0xFF, 0xFD, 0xA0], 0x201, 2, []) := by
  decide +kernel -- D4

theorem test_asl : after (usual [0x0A] 0x80 0 0 0x20 []) [] = some ([0, 0, 0, 0xFD, 0x23], 0x201, 2, []) := by
  decide +kernel -- D5

theorem test_lsr : after (usual [0x46, 0x10] 0 0 0 0x20 [(0x10, 1)]) [0x10] = some ([0, 0, 0, 0xFD, 0x23], 0x202, 5, [0]) := by
  decide +kernel -- D6

theorem test_rol : after (usual [0x2A] 0x80 0 0 0x21 []) [] = some ([1, 0, 0, 0xFD, 0x21], 0x201, 2, []) := by
  decide +kernel -- D7

theorem test_ror : after (usual [0x76, 0x0F] 0 1 0 0x21 [(0x10, 1)]) [0x10] = -- D8
      some ([0, 1, 0, 0xFD, 0xA1], 0x202, 6, [0x80]) ∧
    after (usual [0x6A] 0 0 0 0x20 []) [] = some ([0, 0, 0, 0xFD, 0x22], 0x201, 2, []) := by decide +kernel -- D9

/-! ## Control flow (groups E and F) -/

theorem test_jmp : after (usual [0x4C, 0x34, 0x12] 0 0 0 0x20 []) [] = some ([0, 0, 0, 0xFD, 0x20], 0x1234, 3, []) ∧ -- E1
    after (start 0x400 [0x6C, 0xFF, 0x02] 0 0 0 0xFD 0x20 [(0x2FF, 0x34), (0x200, 0x12), (0x300, 0x56)]) [] = -- E2
      some ([0, 0, 0, 0xFD, 0x20], 0x1234, 5, []) := by decide +kernel

theorem test_jsr : after (usual [0x20, 0x00, 0x03] 0 0 0 0x20 []) [0x1FD, 0x1FC] =
    some ([0, 0, 0, 0xFB, 0x20], 0x300, 6, [2, 2]) := by decide +kernel -- E3

theorem test_rts : after (start 0x300 [0x60] 0 0 0 0xFB 0x20 [(0x1FC, 2), (0x1FD, 2)]) [] = -- E4
      some ([0, 0, 0, 0xFD, 0x20], 0x203, 6, []) ∧
    after (start 0x300 [0x60] 0 0 0 0xFB 0x20 [(0x1FC, 0xFF), (0x1FD, 0xFF)]) [] = -- E5
      some ([0, 0, 0, 0xFD, 0x20], 0x0000, 6, []) := by decide +kernel

theorem test_rti : after (start 0x300 [0x40] 0 0 0 0xFA 0x24 [(0x1FB, 0xC3), (0x1FC, 0x34), (0x1FD, 2)]) [] =
    some ([0, 0, 0, 0xFD, 0xE3], 0x234, 6, []) := by decide +kernel -- E6

/-- A 32 KB NROM image with the given bytes (R610). -/
def rom (s : State) (cells : List (Nat × Byte)) : State :=
  { s with cart := { s.cart with image := { s.cart.image with
      prgRomBanks := 2, prgRom := cells.foldl (fun m c => m.write (c.1 - 0x8000) c.2) [] } } }

theorem test_brk : after (rom (usual [0x00, 0xEA] 0 0 0 0x21 []) [(0xFFFF, 0x03)]) [0x1FD, 0x1FC, 0x1FB] =
    some ([0, 0, 0, 0xFA, 0x25], 0x300, 7, [2, 2, 0x31]) := by decide +kernel -- E7

theorem test_bne : after (usual [0xD0, 0x10] 0 0 0 0x22 []) [] = some ([0, 0, 0, 0xFD, 0x22], 0x202, 2, []) ∧ -- F1
    after (usual [0xD0, 0x10] 0 0 0 0x20 []) [] = some ([0, 0, 0, 0xFD, 0x20], 0x212, 3, []) := by decide +kernel -- F2

theorem test_beq : after (usual [0xF0, 0xFE] 0 0 0 0x22 []) [] = some ([0, 0, 0, 0xFD, 0x22], 0x200, 3, []) := by
  decide +kernel -- F3

theorem test_bcc : after (start 0x2F0 [0x90, 0x7F] 0 0 0 0xFD 0x20 []) [] = some ([0, 0, 0, 0xFD, 0x20], 0x371, 4, []) := by
  decide +kernel -- F4

theorem test_bcs : after (usual [0xB0, 0x80] 0 0 0 0x21 []) [] = some ([0, 0, 0, 0xFD, 0x21], 0x182, 4, []) := by
  decide +kernel -- F5

theorem test_bpl : after (start 0x2FD [0x10, 0x02] 0 0 0 0xFD 0x20 []) [] = some ([0, 0, 0, 0xFD, 0x20], 0x301, 4, []) := by
  decide +kernel -- F6

theorem test_bmi : after (start 0x2FE [0x30, 0x01] 0 0 0 0xFD 0xA0 []) [] = some ([0, 0, 0, 0xFD, 0xA0], 0x301, 3, []) := by
  decide +kernel -- F7

theorem test_bvs : after (usual [0x70, 0x00] 0 0 0 0x60 []) [] = some ([0, 0, 0, 0xFD, 0x60], 0x202, 3, []) := by
  decide +kernel -- F8

theorem test_bvc : after (usual [0x50, 0x00] 0 0 0 0x60 []) [] = some ([0, 0, 0, 0xFD, 0x60], 0x202, 2, []) := by
  decide +kernel -- F9

/-! ## Flags and NOP (group G) -/

/-- One step of a one-byte instruction from flags `p`: the flags after. -/
def flagStep (op p : Byte) : Option Byte := (after (usual [op] 0 0 0 p []) []).bind fun r =>
  if r.2.1 = 0x201 ∧ r.2.2.1 = 2 then r.1[4]? else none

theorem test_flags : flagStep 0x18 0xEF = some 0xEE ∧ flagStep 0x38 0x20 = some 0x21 ∧ flagStep 0x58 0xEF = some 0xEB ∧
    flagStep 0x78 0x20 = some 0x24 ∧ flagStep 0xB8 0xEF = some 0xAF ∧ flagStep 0xD8 0xEF = some 0xE7 ∧
    flagStep 0xF8 0x20 = some 0x28 ∧ flagStep 0xEA 0xEF = some 0xEF := by decide +kernel

/-! ## Unofficial opcodes (group H) -/

theorem test_lax : after (usual [0xA7, 0x10] 0 0 0 0x20 [(0x10, 0x80)]) [] = some ([0x80, 0x80, 0, 0xFD, 0xA0], 0x202, 3, []) := by
  decide +kernel -- H1

theorem test_sax : after (usual [0x87, 0x10] 0xF0 0x3C 0 0x22 []) [0x10] = some ([0xF0, 0x3C, 0, 0xFD, 0x22], 0x202, 3, [0x30]) := by
  decide +kernel -- H2

theorem test_dcp : after (usual [0xC7, 0x10] 0x10 0 0 0x20 [(0x10, 0x11)]) [0x10] =
    some ([0x10, 0, 0, 0xFD, 0x23], 0x202, 5, [0x10]) := by decide +kernel -- H3

theorem test_isc : after (usual [0xE7, 0x10] 0x10 0 0 0x21 []) [0x10] = some ([0x0F, 0, 0, 0xFD, 0x21], 0x202, 5, [1]) := by
  decide +kernel -- H4

theorem test_slo : after (usual [0x07, 0x10] 1 0 0 0x20 [(0x10, 0x81)]) [0x10] = some ([3, 0, 0, 0xFD, 0x21], 0x202, 5, [2]) := by
  decide +kernel -- H5

theorem test_rla : after (usual [0x27, 0x10] 0xFF 0 0 0x21 [(0x10, 0x80)]) [0x10] = some ([1, 0, 0, 0xFD, 0x21], 0x202, 5, [1]) := by
  decide +kernel -- H6

theorem test_sre : after (usual [0x47, 0x10] 1 0 0 0x20 [(0x10, 3)]) [0x10] = some ([0, 0, 0, 0xFD, 0x23], 0x202, 5, [1]) := by
  decide +kernel -- H7

theorem test_rra : after (usual [0x67, 0x10] 0x7F 0 0 0x20 [(0x10, 1)]) [0x10] = some ([0x80, 0, 0, 0xFD, 0xE0], 0x202, 5, [0]) := by
  decide +kernel -- H8

theorem test_anc : after (usual [0x0B, 0x80] 0xFF 0 0 0x20 []) [] = some ([0x80, 0, 0, 0xFD, 0xA1], 0x202, 2, []) := by
  decide +kernel -- H9

theorem test_alr : after (usual [0x4B, 0x03] 0xFF 0 0 0x20 []) [] = some ([1, 0, 0, 0xFD, 0x21], 0x202, 2, []) := by
  decide +kernel -- H10

theorem test_arr : after (usual [0x6B, 0xFF] 0xC0 0 0 0x21 []) [] = some ([0xE0, 0, 0, 0xFD, 0xA1], 0x202, 2, []) ∧ -- H11
    after (usual [0x6B, 0xFF] 0x40 0 0 0x20 []) [] = some ([0x20, 0, 0, 0xFD, 0x60], 0x202, 2, []) := by decide +kernel -- H12

theorem test_sbx : after (usual [0xCB, 0x01] 0x0F 0xF1 0 0x20 []) [] = some ([0x0F, 0, 0, 0xFD, 0x23], 0x202, 2, []) ∧ -- H13
    after (usual [0xCB, 0x10] 0xFF 0x0F 0 0x20 []) [] = some ([0xFF, 0xFF, 0, 0xFD, 0xA0], 0x202, 2, []) := by
  decide +kernel -- H14

theorem test_las : after (start 0x200 [0xBB, 0x00, 0x03] 0 0 0 0xF0 0x20 [(0x300, 0x8F)]) [] =
    some ([0x80, 0x80, 0, 0x80, 0xA0], 0x203, 4, []) := by decide +kernel -- H15

theorem test_shy : after (usual [0x9C, 0x00, 0x03] 0 0 0xFF 0x20 []) [0x300] =
    some ([0, 0, 0xFF, 0xFD, 0x20], 0x203, 5, [4]) := by decide +kernel -- H16

theorem test_shx : after (start 0x400 [0x9E, 0xFF, 0x02] 0 0xFF 1 0xFD 0x20 []) [0x300] =
    some ([0, 0xFF, 1, 0xFD, 0x20], 0x403, 5, [3]) := by decide +kernel -- H17

theorem test_sha : after (usual [0x9F, 0x00, 0x03] 0xFF 0x0F 0 0x20 []) [0x300] =
    some ([0xFF, 0x0F, 0, 0xFD, 0x20], 0x203, 5, [4]) := by decide +kernel -- H18

theorem test_tas : after (usual [0x9B, 0x00, 0x03] 0xF7 0x3F 0 0x20 []) [0x300] =
    some ([0xF7, 0x3F, 0, 0x37, 0x20], 0x203, 5, [4]) := by decide +kernel -- H19

/-- ANE where the result does not depend on `ANE_MAGIC` (R337): A = 0xFF. -/
theorem test_ane (s : State) (h : s.cpu.a = 0xFF) : ∃ t, exec (.aneImm 0x5A) s = .next t ∧ t.cpu.a = s.cpu.x &&& 0x5A := by
  refine ⟨_, rfl, ?_⟩
  show (s.cpu.a ||| Config.aneMagic) &&& s.cpu.x &&& 0x5A = s.cpu.x &&& 0x5A
  rw [h, show (0xFF : Byte) ||| Config.aneMagic = 0xFF from BitVec.allOnes_or, show (0xFF : Byte) &&& s.cpu.x = s.cpu.x from
    BitVec.allOnes_and]

theorem test_extra : stops ({ usual [0x1C, 0x34, 0x12] 0 1 0 0x20 [] with unofficialExtras := false }) =
      some (.illegalOpcode 0x1C 0x200, 0x200, 0) ∧ -- H22
    after (usual [0x1C, 0xFF, 0x12] 0 1 0 0x20 []) [] = some ([0, 1, 0, 0xFD, 0x20], 0x203, 5, []) ∧ -- H23
    after (usual [0x04, 0x10] 0 0 0 0x20 []) [] = some ([0, 0, 0, 0xFD, 0x20], 0x202, 3, []) ∧ -- H24
    after (usual [0xEB, 0x01] 0 0 0 0x21 []) [] = some ([0xFF, 0, 0, 0xFD, 0xA0], 0x202, 2, []) := by decide +kernel -- H25

theorem test_illegal : stops (usual [0x02] 0 0 0 0x20 []) = some (.illegalOpcode 0x02 0x200, 0x200, 0) ∧ -- H26
    stops (usual [0xAB, 0x00] 0 0 0 0x20 []) = some (.illegalOpcode 0xAB 0x200, 0x200, 0) := by decide +kernel -- H27

/-! ## Interrupts (group I) -/

/-- The memory of group I, from `PC` = `0x8000` with I clear. -/
def handlers : State :=
  let s := rom (start 0 [] 0 0 0 0xFD 0x20 []) [(0x8000, 0xEA), (0x8001, 0xEA), (0x9000, 0xE8), (0x9001, 0x40), (0xA000, 0xC8),
    (0xA001, 0x40), (0xFFFB, 0x90), (0xFFFD, 0x80), (0xFFFF, 0xA0)]
  s.setPc 0x8000

theorem test_irq : after handlers.triggerIrq [0x1FD, 0x1FC, 0x1FB] = -- I1
      some ([0, 0, 1, 0xFA, 0x24], 0xA001, 9, [0x80, 0x00, 0x20]) ∧
    after (handlers.setP { handlers.cpu.p with i := true }).triggerIrq [] = -- I2
      some ([0, 0, 0, 0xFD, 0x24], 0x8001, 2, []) := by decide +kernel

theorem test_nmi : after handlers.triggerNmi [] = some ([0, 0, 0, 0xFD, 0x20], 0x8001, 2, []) ∧ -- I4, step 1
    after ({ handlers with cpu := { handlers.cpu with irqPending := true, nmiPending := true } }) -- I6, step 2
      [0x1FD, 0x1FC, 0x1FB, 0x1FA, 0x1F9, 0x1F8] =
      some ([0, 1, 0, 0xF7, 0x24], 0x9001, 16, [0x80, 0x00, 0x20, 0xA0, 0x00, 0x24]) := by decide +kernel

/-! ## CPU bus (group J) -/

/-- The byte a read gives, if it does not fault. -/
def reads (s : State) (a : Word) : Option Byte :=
  match memRead a s with
  | .ok (b, _) => some b
  | .error _ => none

/-- `s` after bus writes in order; a fault leaves `none`. -/
def writes : List (Word × Byte) → State → Option State
  | [], s => some s
  | (a, v) :: l, s => match memWrite a v s with
    | .ok t => writes l t
    | .error _ => none

theorem test_mirrors : (writes [(0x0801, 0x5A)] State.reset).bind (reads · 0x0001) = some 0x5A ∧ -- J1
    (writes [(0x0801, 0x5A)] State.reset).bind (reads · 0x1801) = some 0x5A ∧
    (writes [(0x3F06, 0x20), (0x2006, 0x00)] State.reset).map (fun t => (t.ppu.v, t.ppu.w)) = some (0x2000, false) := by
  decide +kernel -- J2

theorem test_stubs : reads State.reset 0x4015 = some 0 ∧ reads State.reset 0x401F = some 0 ∧ -- J3
    writes [(0x4000, 0xFF), (0x4017, 0x40)] State.reset = some State.reset ∧ -- J4
    reads State.reset 0x4020 = none ∧ reads State.reset 0x5FFF = none ∧ writes [(0x5000, 0)] State.reset = none := by
  decide +kernel -- J5

theorem test_controller : -- J6, the first four reads
    let s : State := State.reset.queueButtons ⟨true, false, false, true, false, false, false, true⟩
    (writes [(0x4016, 1)] s).bind (reads · 0x4016) = some 1 ∧
    (writes [(0x4016, 1)] s).bind (fun t => reads { t with bus := { t.bus with ctrlIndex := 1 } } 0x4016) = some 0 ∧
    (writes [(0x4016, 1)] s).bind (fun t => reads { t with bus := { t.bus with ctrlIndex := 3 } } 0x4016) = some 1 ∧
    (writes [(0x4016, 1)] s).bind (fun t => reads { t with bus := { t.bus with ctrlIndex := 7 } } 0x4016) = some 1 := by
  decide +kernel

theorem test_prgRam : (writes [(0x6000, 0x77)] State.reset).bind (reads · 0x6000) = some 0x77 ∧ -- J9
    writes [(0x8000, 0x12)] State.reset = some State.reset := by decide +kernel -- J10

/-! ## PPU registers (group K) -/

theorem test_scroll : -- K5
    (writes [(0x2000, 0x03), (0x2005, 0x7D), (0x2005, 0x5E)] State.reset).map (fun t => (t.ppu.t, t.ppu.fineX, t.ppu.w)) =
      some (0x6D6F, 5, false) ∧
    (writes [(0x2000, 0x03), (0x2005, 0x7D), (0x2005, 0x5E), (0x2006, 0x3D)] State.reset).map
      (fun t => (t.ppu.t, t.ppu.v, t.ppu.w)) = some (0x3D6F, 0, true) ∧
    (writes [(0x2000, 0x03), (0x2005, 0x7D), (0x2005, 0x5E), (0x2006, 0x3D), (0x2006, 0xF0)] State.reset).map
      (fun t => (t.ppu.t, t.ppu.v, t.ppu.w)) = some (0x3DF0, 0x3DF0, false) := by decide +kernel

theorem test_status : -- K6
    reads { State.reset with ppu := { State.reset.ppu with vblank := true, spriteZeroHit := true, lastWrite := 0xFF, w := true } }
      0x2002 = some 0xDF := by decide +kernel

theorem test_data : -- K7, K8
    let s := writes [(0x2006, 0x24), (0x2006, 0x00), (0x2007, 0xAA), (0x2007, 0xBB)] State.reset
    s.map (fun t => (t.ppu.vram.read 0, t.ppu.vram.read 1, t.ppu.v)) = some (0xAA, 0xBB, 0x2402) ∧
    ((s.bind (writes [(0x2006, 0x20), (0x2006, 0x00)])).map fun t => (t.readPpuData.1, t.readPpuData.2.readPpuData.1)) =
      some (0x00, 0xAA) := by decide +kernel

theorem test_palette : -- K1, K10
    (writes [(0x2006, 0x3F), (0x2006, 0x10), (0x2007, 0x21)] State.reset).map (fun t => (t.ppu.palette.read 0, t.ppuRead 0x3F00)) =
      some (0x21, 0x21) ∧
    (writes [(0x2007, 0x11)] { State.reset with ppu := { State.reset.ppu with v := 0x7FFF } }).map
      (fun t => (t.ppu.palette.read 31, t.ppu.v)) = some (0x11, 0) := by decide +kernel

theorem test_vramIndex : -- K4
    [0x2000, 0x2400, 0x2800, 0x2C00, 0x2FFF, 0x3000, 0x3EFF].map ({ State.reset.cart with mirroring := .horizontal }).vramIndex =
      [0x000, 0x000, 0x400, 0x400, 0x7FF, 0x000, 0x6FF] ∧
    [0x2000, 0x2400, 0x2800, 0x2C00, 0x2FFF, 0x3000, 0x3EFF].map ({ State.reset.cart with mirroring := .vertical }).vramIndex =
      [0x000, 0x400, 0x000, 0x400, 0x7FF, 0x000, 0x6FF] := by decide +kernel

/-- `s` with the raster at a position. -/
def raster (s : State) (line cyc : Nat) : State := s.setPpu { s.ppu with scanline := line, cycle := cyc }

/-- `s` with background rendering on and the frame parity given. -/
def rendering (s : State) (f : Bool) : State := s.setPpu { s.ppu with mask := { s.ppu.mask with showBg := true }, f := f }

theorem test_raster : -- K11, K12
    ((raster State.reset 241 0).ppuStep.ppu.vblank = true ∧ (raster State.reset 261 340).ppuStep.ppu.scanline = 0) ∧
    (raster (rendering State.reset true) 261 339).ppuStep.ppu.cycle = 0 ∧
    (raster (rendering State.reset false) 261 339).ppuStep.ppu.cycle = 340 := by decide +kernel

theorem test_nmi_edge : -- K14
    let s : State := { State.reset with ppu := { State.reset.ppu with vblank := true } }
    (writes [(0x2000, 0x80)] s).map (fun t => (t.cpu.nmiPending, t.cpu.nmiDelay, t.ppu.nmiLine)) = some (true, 1, true) := by
  decide +kernel

/-! ## PPU rendering (R563, R564) -/

theorem test_tile : -- R563
    ({ State.reset.ppu with patLow := 0xF0, patHigh := 0xCC, atBits := 2 } : Ppu).tileData = 0x88AA99BB := by decide +kernel

/-- Nine sprites with Y byte 100, all others `0xF0` (R564). -/
def nineSprites : Ppu :=
  { State.reset.ppu with oam := (List.range 64).foldl (fun m k => Memory.write m (4 * k) (if k < 9 then 100 else 0xF0)) [] }

theorem test_overflow : -- R564
    let r := nineSprites.evaluateSprites 100
    r.spriteCount = 8 ∧ r.spriteOverflow = true ∧ r.spriteIndex.toList = [0, 1, 2, 3, 4, 5, 6, 7] ∧
    (nineSprites.evaluateSprites 108).spriteCount = 0 := by decide +kernel

/-- R563 at (1, 3): the background of the example is opaque at x = 2 and sprite 0 is in front of it. -/
theorem test_pixel :
    let u : Ppu := { State.reset.ppu with
      mask := { State.reset.ppu.mask with showBg := true, showSprites := true, showBgLeft := true, showSpritesLeft := true },
      tileShift := 0x9, palette := (Memory.write [] 0x9 0x29).write 0x15 0x25, spriteCount := 1,
      sprites := State.reset.ppu.sprites.setIfInBounds 0 ⟨0, 2, 1, 2⟩ }
    let s : State := { State.reset with ppu := u, cart := { State.reset.cart with chr := Memory.write [] 32 0xFF } }
    (s.renderPixel 1 2).ppu.framebuffer.read 258 = 0x25 ∧ (s.renderPixel 1 2).ppu.spriteZeroHit = true := by decide +kernel

/-! ## Mappers (groups L and M) -/

/-- A cartridge with bank counts and registers. -/
def cartOf (prg chr : Nat) (regs : MapperRegs) : Cart :=
  { State.reset.cart with image := { CartImage.empty with prgRomBanks := prg, chrBanks := chr }, regs := regs.reset }

/-- Register writes in order. -/
def wrote (k : Cart) (l : List (Word × Byte)) : Cart := l.foldl (fun k p => k.registerWrite p.1 p.2) k

theorem test_discrete : -- L1 to L7
    (cartOf 1 0 .nrom).prgOffset 0xBFFC = 0x3FFC ∧
    (wrote (cartOf 8 0 (.uxrom 0)) [(0x8000, 0x13)]).prgOffset 0x8000 = 0xC000 ∧
    (wrote (cartOf 8 0 (.uxrom 0)) [(0xFFFF, 0x0F)]).prgOffset 0x8000 = 0x1C000 ∧
    (wrote (cartOf 2 4 (.cnrom 0)) [(0xFFFF, 0x06)]).chrOffset 0x1234 = 0x5234 ∧
    (wrote (cartOf 8 4 (.gxrom 0 0)) [(0x8000, 0x31)]).prgOffset 0x8000 = 0x18000 ∧
    (wrote (cartOf 8 4 (.gxrom 0 0)) [(0x8000, 0x31)]).chrOffset 0 = 0x2000 ∧
    (wrote (cartOf 8 4 (.colorDream 0 0)) [(0x8000, 0x31)]).prgOffset 0x8000 = 0x8000 ∧
    (wrote (cartOf 8 4 (.colorDream 0 0)) [(0x8000, 0x31)]).chrOffset 0 = 0x6000 ∧
    (wrote (cartOf 16 0 (.axrom 0)) [(0x8000, 0x13)]).prgOffset 0x8000 = 0x18000 ∧
    (wrote (cartOf 16 0 (.axrom 0)) [(0x8000, 0x13)]).mirroring = .singleUpper := by decide +kernel

theorem test_chr : -- L8, L9
    (writes [(0x2006, 0x00), (0x2006, 0x10), (0x2007, 0x99)] State.reset).map (·.ppuRead 0x0010) = some 0x99 ∧
    writes [(0x2006, 0x00), (0x2006, 0x10), (0x2007, 0x99)] { State.reset with cart := cartOf 1 1 .nrom } = none := by
  decide +kernel

/-- MMC1 registers, all zero. -/
def mmc1Zero : Mmc1 := ⟨0, 0, 0, 0, 0, 0⟩

/-- MMC3 registers, all zero. -/
def mmc3Zero : Mmc3 := ⟨0, Vector.replicate 8 0, 0, 0, false⟩

theorem test_mmc1 : -- M1, M2, M4
    let k := cartOf 8 4 (.mmc1 mmc1Zero)
    let k2 := wrote k [(0xE000, 1), (0xE000, 0), (0xE000, 1), (0xE000, 0), (0xE000, 0)]
    let k4 := wrote k2 [(0x9FFF, 0), (0x9FFF, 1), (0x9FFF, 0), (0x9FFF, 0), (0x9FFF, 1)]
    k.prgOffset 0xFFFC = 0x1FFFC ∧ k2.prgOffset 0x8000 = 0x14000 ∧ k4.prgOffset 0x8000 = 0x10000 ∧
    k4.prgOffset 0xC000 = 0x14000 ∧ k4.mirroring = .vertical := by decide +kernel

theorem test_mmc3 : -- M11, M12, M14
    let k := wrote (cartOf 8 16 (.mmc3 mmc3Zero)) [(0x8000, 6), (0x8001, 5), (0x8000, 7), (0x8001, 9)]
    let k2 := wrote k [(0x8000, 0x46)]
    let k3 := wrote k [(0x8000, 0), (0x8001, 5), (0x8000, 2), (0x8001, 0x20), (0x8000, 0x80)]
    [0x8000, 0xA000, 0xC000, 0xE000].map k.prgOffset = [0xA000, 0x12000, 0x1C000, 0x1E000] ∧
    [0x8000, 0xA000, 0xC000, 0xE000].map k2.prgOffset = [0x1C000, 0x12000, 0xA000, 0x1E000] ∧
    (k3.chrOffset 0x0000, k3.chrOffset 0x1000, k3.chrOffset 0x1400) = (0x8000, 0x1000, 0x1400) := by decide +kernel

theorem test_mmc3_counter : -- M16
    let r : Mmc3 := { mmc3Zero with irqLatch := 3, irqEnable := true }
    [1, 2, 3, 4, 5, 6].map (fun n => (Nat.repeat Mmc3.clock n r).irqCounter) = [3, 2, 1, 0, 3, 2] ∧
    [0, 1, 2, 3, 4].map (fun n => (Nat.repeat Mmc3.clock n r).clockTriggers) = [false, false, false, true, false] := by
  decide +kernel

/-- `withFetchWord` puts a table word where the next step fetches it (log 17). -/
theorem test_withFetchWord : after (State.reset.withFetchWord 16 0x42A9) [] = some ([0x42, 0, 0, 0xFD, 0x24], 0x002, 2, []) := by
  decide +kernel

/-! ## Witnesses: states and operands that meet the hypotheses of each obligation together -/

/-- Whether `exec` answers a next state. -/
def runs (i : Instr) (s : State) : Bool :=
  match exec i s with
  | .next _ => true
  | .fault _ => false
  | .refused _ => false

/-- Whether `exec` stops with a fault. -/
def faults (i : Instr) (s : State) : Bool :=
  match exec i s with
  | .next _ => false
  | .fault _ => true
  | .refused _ => false

/-- Whether a state meets the invariant. -/
def meets (s : State) : Bool := decide s.Inv

theorem meets_iff (s : State) : meets s = true ↔ s.Inv := decide_eq_true_iff

/-- The 256 instructions of the table, with operand bytes 0x34 0x12. -/
def allWords : List Instr :=
  (words0 ++ words1 ++ words2 ++ words3 ++ words4 ++ words5 ++ words6 ++ words7 ++ words8 ++ words9 ++ wordsA ++ wordsB ++
    wordsC ++ wordsD ++ wordsE ++ wordsF).map (·.2)

/-- The instructions of some mnemonics. -/
def formsOf (l : List Mnemonic) : List Instr := allWords.filter fun i => decide (i.mnemonic ∈ l)

/-- A state in which every operand of `allWords` is a byte of RAM: the pointers at `0x34` and `0x36` lead to `0x02F0` and
`0x0310`, and the indexes cross pages. -/
def wide : State :=
  { State.reset with
    cpu := { State.reset.cpu with
      a := 0x81, x := 0x02, y := 0xF3, pc := 0x200, p := { Flags.reset with c := true, i := false } }
    bus := { State.reset.bus with ram := [(0x34, 0xF0), (0x35, 0x02), (0x36, 0x10), (0x37, 0x03)] } }

/-- Whether the operand can be read, and lies in internal RAM, where any byte can be written back. -/
def modifiable (i : Instr) (s : State) : Bool :=
  s.operandReadable i.operand && decide ((s.target i.operand).ea < 0x2000)

theorem modifiable_hypotheses {i : Instr} {s : State} (h : modifiable i s = true) :
    s.operandReadable i.operand = true ∧ ∀ (t : State) (v : Byte), t.writable (s.target i.operand).ea v = true := by
  rw [modifiable, Bool.and_eq_true, decide_eq_true_iff] at h
  exact ⟨h.1, fun t v => by rw [State.writable, if_pos h.2]⟩

/-- A step's polled state, where the poll does not fault. -/
def polled (s : State) : Option State :=
  match interruptPoll s with
  | .ok t => some t
  | .error _ => none

/-! ### Encoding and the step -/

theorem witness_DecodeDetermines : decode [0xA9, 0x01, 0x02] = .ok (.ldaImm 1, [2]) ∧ Instr.ldaImm 1 ≠ .brk ∧
    decode [0x00, 0xFF, 0x02] = .ok (.brk, [2]) ∧ decode [0x00] = .ok (.brk, []) := ⟨rfl, by decide, rfl, rfl⟩

theorem witness_StepRunsDecoded :
    let s := start 0x7FE [0xBD, 0xFF] 0 1 0 0xFD 0x20 [(0x000, 0x10)]
    s.fault = none ∧ s.cpu.idle = 0 ∧ interruptPoll s = .ok s ∧ (Instr.ldaAbx 0x10FF).wellFormed s.unofficialExtras = true ∧
    peek s.cpu.pc s = some (Instr.ldaAbx 0x10FF).opcode ∧
    ∀ k b, (Instr.ldaAbx 0x10FF).operand.bytes[k]? = some b → peek (s.cpu.pc + 1 + BitVec.ofNat 16 k) s = some b := by
  refine ⟨rfl, rfl, rfl, rfl, by decide +kernel, fun k b h => ?_⟩
  match k, h with
  | 0, h => injection h with h; subst h; decide +kernel
  | 1, h => injection h with h; subst h; decide +kernel

theorem witness_UndispatchedStops : Instr.illegal02.cls = .illegal ∧ Instr.illegalAB.cls = .illegal ∧
    (Instr.nopAbx1C 0).cls = .extra ∧ (Instr.sbcImmEB 0).cls = .extra ∧
    (let s : State := { usual [0xEB] 0 0 0 0x20 [] with unofficialExtras := false }
     s.fault = none ∧ s.cpu.idle = 0 ∧ interruptPoll s = .ok s ∧ s.unofficialExtras = false ∧
     peek s.cpu.pc s = some (Instr.sbcImmEB 0).opcode) ∧
    (let s := usual [0x02] 0 0 0 0x20 []
     s.fault = none ∧ s.cpu.idle = 0 ∧ interruptPoll s = .ok s ∧ peek s.cpu.pc s = some Instr.illegal02.opcode) :=
  ⟨rfl, rfl, rfl, rfl, ⟨rfl, rfl, rfl, rfl, rfl⟩, ⟨rfl, rfl, rfl, rfl⟩⟩

/-- Loading a snapshot of another moment: the CPU is the snapshot's, the fault stays (R401, R706). -/
theorem test_loadState :
    let snap := usual [0xEA] 0x12 0 0 0x20 []
    ({ State.reset with fault := some (.readOnlyMemory 0) } : State).loadState snap =
      some { snap with fault := some (.readOnlyMemory 0) } ∧
    State.reset.loadState { snap with cart := { snap.cart with image := { snap.cart.image with prgRomBanks := 2 } } } = none := by
  decide +kernel

theorem witness_StepsThatExecuteNothing :
    ({ State.reset with fault := some (.readOnlyMemory 0) } : State).fault = some (.readOnlyMemory 0) ∧
    (let s : State := { State.reset with cpu := { State.reset.cpu with idle := 1 } }
     s.fault = none ∧ 0 < s.cpu.idle) := by decide

theorem witness_StepFaultIsRecorded : (usual [0x02] 0 0 0 0x20 []).fault = none ∧
    (stops (usual [0x02] 0 0 0 0x20 [])).isSome = true ∧ (after (usual [0xEA] 0 0 0 0x20 []) []).isSome = true := by
  decide +kernel

theorem witness_StallRunsOut : let s : State := { State.reset with cpu := { State.reset.cpu with idle := 514 } }
    s.fault = none ∧ s.cpu.idle = 514 := ⟨rfl, rfl⟩

theorem witness_StepKeepsInvariant : meets wide = true ∧ meets State.reset = true ∧ meets (usual [0x02] 0 0 0 0x20 []) = true ∧
    (after (usual [0xEA] 0 0 0 0x20 []) []).isSome = true ∧ (stops (usual [0x02] 0 0 0 0x20 [])).isSome = true := by
  decide +kernel

/-! ### Results: every form of each mnemonic -/

theorem witness_LoadResults : (formsOf [.lda, .ldx, .ldy, .lax]).length = 24 ∧
    ∀ i ∈ formsOf [.lda, .ldx, .ldy, .lax], wide.operandReadable i.operand = true ∧ runs i wide = true := by decide +kernel

theorem witness_StoreResults : (formsOf [.sta, .stx, .sty, .sax]).length = 17 ∧
    (∀ i ∈ formsOf [.sta, .stx, .sty, .sax], ([wide.cpu.a, wide.cpu.x, wide.cpu.y, wide.cpu.a &&& wide.cpu.x].all
      (wide.writable (wide.target i.operand).ea)) = true ∧ runs i wide = true) ∧
    ([0x1FFF, 0x2000, 0x3FFF, 0x401F, 0x6000, 0x7FFF, 0x8000, 0xFFFF].all fun a =>
      wide.writable a wide.cpu.x && runs (.stxAbs a) wide) = true ∧ wide.writable 0x4014 wide.cpu.x = true ∧
    wide.writable 0x4020 0 = false ∧ wide.writable 0x5FFF 0 = false := by decide +kernel

theorem witness_LogicResults : (formsOf [.and, .ora, .eor, .bit]).length = 26 ∧
    ∀ i ∈ formsOf [.and, .ora, .eor, .bit], wide.operandReadable i.operand = true ∧ runs i wide = true := by decide +kernel

theorem witness_ArithmeticResults : (formsOf [.adc, .sbc]).length = 17 ∧
    ∀ i ∈ formsOf [.adc, .sbc], wide.operandReadable i.operand = true ∧ i.wellFormed wide.unofficialExtras = true ∧
      runs i wide = true := by decide +kernel

theorem witness_CompareResults : (formsOf [.cmp, .cpx, .cpy]).length = 14 ∧
    ∀ i ∈ formsOf [.cmp, .cpx, .cpy], wide.operandReadable i.operand = true ∧ runs i wide = true := by decide +kernel

theorem witness_IncrementResults : (formsOf [.inc, .dec]).length = 8 ∧
    ∀ i ∈ formsOf [.inc, .dec], modifiable i wide = true ∧ runs i wide = true := by decide +kernel

theorem witness_ShiftResults : (formsOf [.asl, .lsr, .rol, .ror]).length = 20 ∧
    (∀ i ∈ formsOf [.asl, .lsr, .rol, .ror], modifiable i wide = true ∨ operandMode i.operand = .acc) ∧
    ∀ i ∈ formsOf [.asl, .lsr, .rol, .ror], runs i wide = true := by decide +kernel

theorem witness_JumpResults : ([(0x02FF : Word), 0x1FFF, 0x6000, 0xFFFF].all fun a =>
      readable a && readable (wordOf (hiByte a) (loByte a + 1)) && runs (.jmpInd a) wide) = true ∧
    readable 0x5FFF = false ∧ runs (.jmpInd 0x5FFF) wide = false := by decide +kernel

theorem witness_CallsReturn : meets wide = true ∧ meets (start 0x200 [] 0 0 0 0 0x20 []) = true ∧ meets (start 0x200 [] 0 0 0 0xFF 0x20 []) = true := by
  decide +kernel

theorem witness_FlagAndNopResults : (formsOf [.nop]).length = 28 ∧ wide.unofficialExtras = true ∧
    (∀ i ∈ formsOf [.nop], i.cls = .extra ∨ i = .nop) ∧ ∀ i ∈ formsOf [.nop], runs i wide = true := by decide +kernel

theorem witness_CombinedResults : (formsOf [.dcp, .isc, .slo, .rla, .sre, .rra]).length = 42 ∧
    ∀ i ∈ formsOf [.dcp, .isc, .slo, .rla, .sre, .rra], modifiable i wide = true ∧ runs i wide = true := by decide +kernel

theorem witness_ImmediateAndLasResults : readable (wide.target (.aby 0x1234)).ea = true ∧
    runs (.lasAby 0x1234) wide = true := by decide +kernel

/-- Both page cases of the address: `0x1234` + Y does not stay in its page, `0x1200` + X does. -/
theorem witness_HighByteStoreResults : (formsOf [.sha, .shx, .shy, .tas]).length = 5 ∧
    (∀ i ∈ formsOf [.sha, .shx, .shy, .tas], runs i wide = true ∧ ([wide.cpu.a &&& wide.cpu.x, wide.cpu.x, wide.cpu.y].all fun reg =>
      let r := wide.target i.operand
      let v := reg &&& BitVec.ofNat 8 (r.base.toNat / 256 + 1)
      wide.writable (if r.ea.toNat / 256 = r.base.toNat / 256 then r.ea
        else BitVec.ofNat 16 (256 * v.toNat + r.ea.toNat % 256)) v) = true) ∧
    (wide.target (.aby 0x1234)).crossed = true ∧ (wide.target (.abx 0x1200)).crossed = false ∧
    runs (.shyAbx 0x1200) wide = true := by decide +kernel

/-! ### Frames: every instruction but the thirteen illegal ones runs in one state -/

theorem witness_frames : meets wide = true ∧ allWords.length = 256 ∧ (allWords.filter fun i => decide (i.cls = .illegal)).length = 13 ∧
    ∀ i ∈ allWords, runs i wide = decide (i.cls ≠ .illegal) := by decide +kernel

theorem witness_StoreFrame :
    ([0x0000, 0x1FFF, 0x2000, 0x3FFF, 0x4016, 0x6000, 0x7FFF, 0x8000, 0xFFFF].all fun a =>
      runs (.staAbs a) { wide with buttonInputs := [Buttons.none] } && decide ((wide.target (.abs a)).ea = a)) = true ∧
    (Instr.staAbs 0).mnemonic = .sta ∧ meets wide = true ∧
    (∀ i ∈ formsOf [.sha, .shx, .shy, .tas], runs i wide = true) := by decide +kernel

/-- Both hypotheses on the address stored to: a store at each side of `0x4014`, and forms that store nothing. -/
theorem witness_StoresTo : wide.StoresTo (.staAbs 0x4013) 0x4013 ∧ wide.StoresTo (.staAbs 0x4014) 0x4014 ∧
    wide.StoresTo (.incZp 0x12) 0x12 ∧ (∀ ea, ¬ wide.StoresTo .aslAcc ea) ∧ (∀ ea, ¬ wide.StoresTo .pha ea) := by
  refine ⟨.inl ⟨by decide, by decide, rfl⟩, .inl ⟨by decide, by decide, rfl⟩, .inl ⟨by decide, by decide, rfl⟩, fun _ h => ?_,
    fun _ h => ?_⟩ <;> simp [State.StoresTo, Instr.mnemonic, Instr.operand, operandMode, Instr.row] at h

theorem witness_StackFrame : ([(0x00 : Byte), 0x01, 0x02, 0xFF].all fun sp => (formsOf [.pha, .php, .jsr, .brk]).all fun i =>
    runs i (start 0x200 [] 0x12 0 0 sp 0x20 []) && meets (start 0x200 [] 0x12 0 0 sp 0x20 [])) = true := by decide +kernel

/-! ### The bus -/

/-- PRG-ROM at both ends of its window (R93, R603). -/
theorem test_prgRom : let s := rom State.reset [(0x8000, 0x12), (0xFFFF, 0x34)]
    reads s 0x8000 = some 0x12 ∧ reads s 0xFFFF = some 0x34 := by decide +kernel

theorem witness_BusAccess : (reads State.reset 0x401F).isSome = true ∧ (reads State.reset 0x4020).isSome = false ∧
    (reads State.reset 0x5FFF).isSome = false ∧ (reads State.reset 0x6000).isSome = true ∧
    [(0x00 : Byte), 0x3F, 0x40, 0x5F, 0x60, 0xFF].map (State.reset.writable 0x4014) = [true, true, false, false, true, true] ∧
    (writes [(0x4014, 0x40)] State.reset).isSome = false := by decide +kernel

/-- The first and the last mirror of the write-only registers (R504); `$2002`, `$2004` and `$2007` are not among them. -/
theorem witness_writeOnlyReads : ([(0x2000 : Word), 0x2001, 0x2003, 0x2005, 0x2006, 0x3FF8, 0x3FFE].all fun a =>
    decide (0x2000 ≤ a) && decide (a < 0x4000) && decide (a.toNat % 8 ∈ [0, 1, 3, 5, 6])) = true ∧
    [(0x2002 : Word), 0x2004, 0x3FFF].all (fun a => decide (a.toNat % 8 ∉ [0, 1, 3, 5, 6])) = true := by decide

theorem witness_CpuWriteEffects : meets State.reset = true ∧ ([(0x0000 : Word), 0x07FF, 0x1FFF, 0x6000, 0x7FFF, 0x8000, 0xFFFF].all fun a =>
    (writes [(a, 0x5A)] State.reset).isSome) = true := by decide +kernel

theorem witness_ControllerShiftsOut : let s := State.reset.queueButtons Buttons.none
    s.buttonInputs = [Buttons.none] ∧ (0x01 : Byte).getLsbD 0 = true ∧ (0x02 : Byte).getLsbD 0 = false ∧
    (writes [(0x4016, 1)] s).map (fun t => (t.bus.ctrlButtons, t.bus.ctrlIndex, t.buttonInputs)) =
      some (Buttons.none, 0, []) ∧ State.reset.buttonInputs = [] ∧ State.reset.bus.ctrlIndex = (0 : Fin 8).val ∧
    (let u : State := { State.reset with bus := { State.reset.bus with ctrlIndex := 8 } }
     8 ≤ u.bus.ctrlIndex ∧ meets u = true) := by decide +kernel

theorem witness_OamDmaCopies : meets State.reset = true ∧ (0x00 : Byte) < 0x20 ∧ (0x1F : Byte) < 0x20 := by decide +kernel

/-! ### Interrupts -/

/-- `handlers` with pending interrupts and I given. -/
def pending (irq nmi : Bool) (delay : Nat) (i : Bool) : State :=
  { handlers with cpu := { handlers.cpu with irqPending := irq, nmiPending := nmi, nmiDelay := delay,
                                             p := { handlers.cpu.p with i := i } } }

theorem witness_InterruptLines : (pending false false 0 true).cpu.p.i = true ∧ (pending false false 0 false).cpu.p.i = false := by
  decide

/-- Each clause of the poll: nothing due, NMI delayed, NMI due, IRQ alone, IRQ with a delayed NMI, both. -/
theorem witness_PollOrder : [pending false false 0 false, pending true false 0 true, pending false true 1 false,
      pending false true 0 false, pending true false 0 false, pending true true 1 false, pending true true 0 false].map
        (fun s => (polled s).map fun t => (t.cpu.pc, t.cpu.irqPending, t.cpu.nmiPending, t.cpu.nmiDelay, t.cpu.cycles)) =
    [some (0x8000, false, false, 0, 0), some (0x8000, false, false, 0, 0), some (0x8000, false, true, 0, 0),
      some (0x9000, false, false, 0, 7), some (0xA000, false, false, 0, 7), some (0xA000, false, true, 0, 7),
      some (0x9000, false, false, 0, 14)] := by decide +kernel

/-! ### The PPU -/

theorem witness_registerMirrors : (0 : Nat) < 1024 ∧ (1023 : Nat) < 1024 ∧ ppuReg (BitVec.ofNat 16 (0x2000 + 8 * 1023)) = 0 ∧
    ppuReg (BitVec.ofNat 16 (0x2001 + 8 * 1023)) = 1 ∧ ppuReg (BitVec.ofNat 16 (0x2002 + 8 * 1023)) = 2 ∧
    ppuReg (BitVec.ofNat 16 (0x2003 + 8 * 1023)) = 3 ∧ ppuReg (BitVec.ofNat 16 (0x2004 + 8 * 1023)) = 4 ∧
    ppuReg (BitVec.ofNat 16 (0x2007 + 8 * 1023)) = 7 := by decide

theorem witness_ScrollAndAddressPairs : State.reset.ppu.w = false ∧ (0 : Nat) < 1024 ∧ (1023 : Nat) < 1024 ∧
    ppuReg (BitVec.ofNat 16 (0x2005 + 8 * 1023)) = 5 ∧ ppuReg (BitVec.ofNat 16 (0x2006 + 8 * 1023)) = 6 := by decide

/-- A cartridge other than Mapper185, for the CHR clause, and the byte of each kind of memory that the PPU bus reads. -/
theorem witness_ppuRead :
    let s : State := { State.reset with
      cart := { cartOf 1 0 .nrom with chr := Memory.write [] 0x1FFF 0x11 }
      ppu := { State.reset.ppu with vram := Memory.write [] 0x6FF 0x22, palette := Memory.write [] 0 0x33 } }
    (∀ st, s.cart.regs ≠ .mapper185 st) ∧
    [0x1FFF, 0x5FFF, 0x3EFF, 0x3F00].map s.ppuRead = [0x11, 0x11, 0x22, 0x33] :=
  ⟨fun st h => (nomatch (h : MapperRegs.nrom = .mapper185 st)), by decide +kernel⟩

/-- Both ports at the ends of each range of `v`, CHR-RAM and CHR-ROM. -/
theorem witness_DataPort :
    let s (v : BitVec 15) (chr : Nat) : State :=
      { State.reset with ppu := { State.reset.ppu with v := v }, cart := cartOf 1 chr .nrom }
    ([(0x0000 : BitVec 15), 0x1FFF, 0x2000, 0x3EFF, 0x3F00, 0x3FFF, 0x4000, 0x7FFF].all fun v =>
      (writes [(0x2007, 0x11)] (s v 0)).isSome && (reads (s v 0) 0x2007).isSome) = true ∧
    (s 0x1FFF 1).cart.image.usesChrRam = false ∧ (writes [(0x2007, 0x11)] (s 0x1FFF 1)).isSome = false ∧
    (writes [(0x2007, 0x11)] (s 0x2000 1)).isSome = true := by decide +kernel

theorem witness_OamAndPaletteHoldWrites : meets State.reset = true ∧
    (writes [(0x2003, 0xFF), (0x3FFC, 0x5A), (0x3FFB, 0xFF)] State.reset).bind (reads · 0x2004) = some 0x5A := by
  decide +kernel

/-- `GoUntilFrame` from the last dots of an odd frame with rendering on: one step completes it (R521, R700). -/
theorem test_goUntilFrame :
    (match goUntilFrame (raster (rendering (usual [0xEA] 0 0 0 0x20 []) true) 261 338) with
     | .next t => some (t.ppu.f, t.ppu.scanline, t.ppu.cycle, t.cpu.cycles)
     | .fault _ => none
     | .refused _ => none) = some (false, 0, 4, 2) := by decide +kernel

theorem witness_goUntilFrame : meets (raster (rendering (usual [0xEA] 0 0 0 0x20 []) true) 261 338) = true ∧
    meets State.reset = true := by decide +kernel

theorem witness_RasterAdvance : ∀ p ∈ [(0, 0), (0, 340), (240, 340), (261, 339), (261, 340)],
    let s := raster (rendering State.reset true) p.1 p.2
    s.ppu.scanline ≤ 261 ∧ s.ppu.cycle ≤ 340 := by decide

theorem witness_VblankTiming :
    let s : State := { State.reset with ppu := { State.reset.ppu with ctrl := { State.reset.ppu.ctrl with nmiEnable := true } } }
    meets (raster s 241 0) = true ∧ (raster s 241 0).ppuStep.ppu.cycle = 1 ∧ (raster s 241 0).ppuStep.cpu.nmiPending = true ∧
    (let v := { raster s 261 0 with ppu := { (raster s 261 0).ppu with vblank := true, nmiLine := true } }
     meets v = true ∧ v.ppuStep.ppu.vblank = false) := by decide +kernel

theorem witness_SpriteEvaluation : ((List.range 64).filter fun k => decide (0 + 4 * k + 3 ≤ 255) &&
    decide ((nineSprites.oam.read (0 + 4 * k)).toNat ≤ 100) && decide (100 ≤ (nineSprites.oam.read (0 + 4 * k)).toNat + 7)) =
      [0, 1, 2, 3, 4, 5, 6, 7, 8] ∧ nineSprites.oamAddr = 0 ∧ nineSprites.ctrl.sprite16 = false := by decide +kernel

/-- Sprite 0 of `spriteScene` is opaque at (1, 2), transparent at (1, 3), and hidden in the left column by its mask. -/
def spriteScene (left : Bool) : State :=
  { State.reset with
    ppu := { State.reset.ppu with
      mask := { State.reset.ppu.mask with showSprites := true, showSpritesLeft := left }, spriteCount := 2,
      sprites := State.reset.ppu.sprites.setIfInBounds 0 ⟨0, 2, 0x81, 2⟩ }
    cart := { State.reset.cart with chr := Memory.write [] 39 0x80 } }

/-- The pixel of a vertically flipped sprite, row 7 of tile 2, and the clauses where none is shown (R542, R543). -/
theorem witness_spritePixel : (spriteScene true).spritePixel 1 2 = (0, 0x5) ∧ (spriteScene true).spritePixel 1 3 = (0, 0) ∧
    (spriteScene false).spritePixel 1 2 = (0, 0) ∧ (spriteScene true).spritePixel 0 2 = (0, 0) := by decide +kernel

theorem witness_PixelOutput : meets State.reset = true ∧ (239 : Nat) < 240 ∧ (255 : Nat) < 256 := by decide

/-! ### Mappers -/

theorem witness_OffsetsInBounds : 0 < (cartOf 1 0 .nrom).image.prgRomBanks ∧ (0x8000 : Word) ≤ 0x8000 ∧ (0x8000 : Word) ≤ 0xFFFF ∧
    (0x1FFF : Nat) < 0x2000 ∧ (0x2000 : Nat) ≤ 0x3EFF ∧ (0x3EFF : Nat) < 0x3F00 := by decide

/-- Each variant, with an odd count of PRG banks too. -/
theorem witness_DiscreteMappers : (cartOf 1 0 .nrom).regs = .nrom ∧ (cartOf 3 0 (.uxrom 1)).regs = .uxrom 0 ∧
    (cartOf 1 3 (.cnrom 1)).regs = .cnrom 0 ∧ (cartOf 3 2 (.gxrom 1 1)).regs = .gxrom 0 0 ∧
    (cartOf 3 2 (.colorDream 1 1)).regs = .colorDream 0 0 ∧ (cartOf 3 0 (.axrom 1)).regs = .axrom 0 := by decide

theorem witness_Mmc1SerialCommit : (cartOf 8 4 (.mmc1 mmc1Zero)).regs = .mmc1 { mmc1Zero with control := 0x0C } ∧
    ([(0x01 : Byte), 0x7E, 0x00, 0x01, 0x7F].all fun d => !d.getLsbD 7) = true ∧ (0x80 : Byte).getLsbD 7 = true := by decide

theorem witness_Mmc3 : (cartOf 8 16 (.mmc3 mmc3Zero)).regs = .mmc3 mmc3Zero := by decide

/-- The clocked dot and each way of missing it; the counter at its ends. -/
theorem witness_Mmc3ScanlineCounter :
    let s : State := { rendering State.reset true with cart := cartOf 8 16 (.mmc3 mmc3Zero) }
    (∀ line ∈ [0, 239, 261], (raster s line 315).mapperStep ≠ raster s line 315 ∨ mmc3Zero.clock = mmc3Zero) ∧
    (∀ p ∈ [(0, 314), (240, 315), (260, 315)], (raster s p.1 p.2).mapperStep = raster s p.1 p.2) ∧
    mmc3Zero.irqCounter = 0 ∧ mmc3Zero.irqLatch = 0 ∧
    (let r : Mmc3 := { mmc3Zero with irqLatch := 0xFF }
     r.irqCounter = 0 ∧ (255 : Nat) ≤ r.irqLatch.toNat) := by decide +kernel

/-- Both a locked and an unlocked state exist, whatever the free transition function is (R660 (a), (b)). -/
theorem witness_Mapper185Lockout : (cartOf 1 1 (.mapper185 5)).regs = .mapper185 0 ∧ (0x1FFF : Nat) < 0x2000 ∧
    m185Unlocked 0 = false ∧ m185Unlocked (m185Next (m185Next 0 0x33) 0x11) = true := by
  refine ⟨rfl, by decide, ?_, ?_⟩
  · unfold m185Unlocked
    split
    · next h => rw [m185Admissible] at h; revert h; cases Config.m185Open 0 <;> simp
    · rfl
  · unfold m185Unlocked m185Next
    split
    · next h =>
      simp only [m185Admissible, Bool.and_eq_true] at h
      exact h.1.1.2
    · decide

end Sys2Proof.Tests
end

section
/-! Loads and stores (spec/40_load_store.md). What the encoding of an instruction is, read off the opcode table; what an
instruction gives whose operation is one data read or one data write; and with these, the results of the loads and stores. -/

namespace Sys2Proof.Machine

open Sys2Proof

/-! ## Encodings -/

/-- The instruction that opcode `op` stands for in the table of R158, with zero operand bytes. -/
def opcodeRow (op : Byte) : Instr := (shapeOf op).instr 0 0

/-- Row and mode of an instruction are those of its opcode, whatever the operand bytes. -/
theorem opcodeRow_row_mode (i : Instr) :
    (opcodeRow i.opcode).row = i.row ∧ operandMode (opcodeRow i.opcode).operand = operandMode i.operand := by
  cases i <;> (dsimp only [Instr.opcode, Instr.row]; exact ⟨rfl, rfl⟩)

theorem mnemonic_opcodeRow (i : Instr) : (opcodeRow i.opcode).mnemonic = i.mnemonic := by
  rw [Instr.mnemonic, (opcodeRow_row_mode i).1, ← Instr.mnemonic]

theorem encodingOf_opcodeRow (i : Instr) : encodingOf (opcodeRow i.opcode) = encodingOf i := by
  obtain ⟨hrow, hmode⟩ := opcodeRow_row_mode i
  simp only [encodingOf, Instr.opcode, Instr.size] at hrow hmode ⊢
  rw [hrow, hmode]

/-- What holds of the encodings in all rows of a mnemonic holds of the encoding of any instruction with that mnemonic. -/
theorem encodingOf_of_rows {m : Mnemonic} {P : Encoding → Prop}
    (rows : ∀ op, (opcodeRow op).mnemonic = m → P (encodingOf (opcodeRow op))) {i : Instr} (h : i.mnemonic = m) :
    P (encodingOf i) := by
  rw [← encodingOf_opcodeRow]
  exact rows i.opcode ((mnemonic_opcodeRow i).trans h)

/-! ## Instructions of one data access -/

/-- A mnemonic that `UNOFFICIAL_EXTRAS` does not concern and that has no indirect form is its handler, run in the advanced state
(R156 steps 5 to 7). -/
theorem exec_of_mnemonic {i : Instr} {m : Mnemonic} (s : State) (h : i.mnemonic = m)
    (hm : m ∉ [.sbc, .nop, .illegal, .jmp]) :
    exec i s = finish (handlerOf m i.operand (s.target i.operand) (s.advanced i)) := by
  subst h
  simp only [List.mem_cons, List.not_mem_nil, or_false, not_or] at hm
  obtain ⟨hsbc, hnop, hillegal, hjmp⟩ := hm
  exact exec_run (wellFormed_of _ hsbc hnop hillegal) (mode_ne_ind hjmp)

/-- The handler that reads its operand and then does `f` with the byte. -/
def readThen (f : Byte → State → State) : Handler := fun o r s => do
  let (b, s) ← readOperand o r s
  pure (f b s)

/-- Where the operand can be read, an instruction whose handler is `readThen f` ends in `f` of the byte and of the state that
the read leaves. -/
theorem exec_readThen {i : Instr} {m : Mnemonic} {s : State} {f : Byte → State → State} (h : i.mnemonic = m)
    (hm : m ∉ [.sbc, .nop, .illegal, .jmp]) (hf : handlerOf m = readThen f)
    (hr : s.operandReadable i.operand = true) : ∃ b t, s.Reads i b t ∧ exec i s = .next (f b t) := by
  obtain ⟨b, t, ht⟩ := reads_ok hr
  refine ⟨b, t, ht, ?_⟩
  rw [State.Reads] at ht
  rw [exec_of_mnemonic s h hm, hf, readThen, ht, ok_bind]
  rfl

/-- The data write of every mode but `acc` is a bus write (R143). -/
theorem writeOperand_eq_memWrite {o : Operand} (r : Resolved) (v : Byte) (s : State) (h : operandMode o ≠ .acc) :
    writeOperand o r v s = memWrite r.ea v s := by
  cases o <;> first | rfl | exact absurd rfl h

/-- What can be written does not depend on `PC` and `cycles`. -/
theorem advanced_writable (s : State) (i : Instr) (a : Word) (v : Byte) :
    (s.advanced i).writable a v = s.writable a v := rfl

/-- Where the write is possible, an instruction whose handler is one data write to memory, of a value `v` that `PC` and `cycles`
do not enter, ends in that bus write. -/
theorem exec_write {i : Instr} {m : Mnemonic} {s : State} {v : State → Byte} (h : i.mnemonic = m)
    (hm : m ∉ [.sbc, .nop, .illegal, .jmp])
    (hacc : ∀ op, (opcodeRow op).mnemonic = m → (encodingOf (opcodeRow op)).mode ≠ .acc)
    (hf : handlerOf m = fun o r s => writeOperand o r (v s) s) (hv : v (s.advanced i) = v s)
    (hw : s.writable (s.target i.operand).ea (v s) = true) :
    ∃ t, memWrite (s.target i.operand).ea (v s) (s.advanced i) = .ok t ∧ exec i s = .next t := by
  have hmode : operandMode i.operand ≠ .acc := encodingOf_of_rows (P := (·.mode ≠ .acc)) hacc h
  rw [← advanced_writable s i] at hw
  obtain ⟨t, ht⟩ := memWrite_ok hw
  refine ⟨t, ht, ?_⟩
  rw [exec_of_mnemonic s h hm, hf]
  simp only [hv, writeOperand_eq_memWrite _ _ _ hmode, ht, finish]

/-! ## The statements -/

/-- Settles O12: each of LDA, LDX, LDY and LAX is `readThen` of setting its registers, Z and N. -/
theorem loadResults : Obligations.LoadResults := by
  unfold Obligations.LoadResults
  intro i s
  refine ⟨fun h => ⟨?_, ?_⟩, fun h => ⟨?_, ?_⟩, fun h => ⟨?_, ?_⟩, fun h => ⟨?_, ?_⟩⟩
  · exact encodingOf_of_rows (by decide) h
  · exact exec_readThen h (by decide) rfl
  · exact encodingOf_of_rows (by decide) h
  · exact exec_readThen h (by decide) rfl
  · exact encodingOf_of_rows (by decide) h
  · exact exec_readThen h (by decide) rfl
  · exact encodingOf_of_rows (by decide) h
  · exact exec_readThen h (by decide) rfl

/-- Settles O13: each of STA, STX, STY and SAX is one data write to memory, of registers. -/
theorem storeResults : Obligations.StoreResults := by
  unfold Obligations.StoreResults
  intro i s completes
  refine ⟨fun h => ⟨?_, ?_⟩, fun h => ⟨?_, ?_⟩, fun h => ⟨?_, ?_⟩, fun h => ⟨?_, ?_⟩⟩
  · exact encodingOf_of_rows (by decide) h
  · exact exec_write (v := (·.cpu.a)) h (by decide) (by decide) rfl rfl
  · exact encodingOf_of_rows (by decide) h
  · exact exec_write (v := (·.cpu.x)) h (by decide) (by decide) rfl rfl
  · exact encodingOf_of_rows (by decide) h
  · exact exec_write (v := (·.cpu.y)) h (by decide) (by decide) rfl rfl
  · exact encodingOf_of_rows (by decide) h
  · exact exec_write (v := fun s => s.cpu.a &&& s.cpu.x) h (by decide) (by decide) rfl rfl

end Sys2Proof.Machine
end

section
/-! Register transfers (spec/41_transfer_stack.md). What an instruction gives whose operation is a change of the state that can
neither fault nor read its operand; and with it, the results of the transfers. -/

namespace Sys2Proof.Machine

open Sys2Proof

/-! ## Instructions without a data access -/

/-- An instruction that pays nothing for a crossed page advances by the size and the cycles of its encoding (R156 step 6). -/
theorem advanced_of_encodingOf {i : Instr} {op : Byte} {mode : Mode} {size cycles : Nat} (s : State)
    (he : encodingOf i = ⟨op, mode, size, cycles, false⟩) :
    s.advanced i =
      { s with cpu := { s.cpu with pc := s.cpu.pc + BitVec.ofNat 16 size, cycles := s.cpu.cycles + cycles } } := by
  simp only [encodingOf, Encoding.mk.injEq] at he
  obtain ⟨-, -, hsize, hcycles, hcross⟩ := he
  simp [State.advanced, hsize, hcycles, hcross]

/-- An instruction whose handler is the total change `f` of the state ends in `f` of the advanced state. -/
theorem exec_update {i : Instr} {m : Mnemonic} {f : State → State} (s : State) (h : i.mnemonic = m)
    (hm : m ∉ [.sbc, .nop, .illegal, .jmp]) (hf : handlerOf m = fun _ _ s => .ok (f s)) :
    exec i s = .next (f (s.advanced i)) := by
  rw [exec_of_mnemonic s h hm, hf]
  rfl

/-- Z and N of a byte, as the statements write them (R26). -/
theorem setZN_eq_flags (s : State) (v : Byte) :
    s.setZN v = s.flags (fun p => { p with z := decide (v = 0), n := v.getLsbD 7 }) := rfl

/-! ## The statement -/

/-- Settles O14: each handler is a total change of the state that sets one register and, but for TXS, Z and N. -/
theorem transferResults : Obligations.TransferResults := by
  unfold Obligations.TransferResults
  intro s next zn
  have implied {i : Instr} {op : Byte} (he : encodingOf i = ⟨op, .imp, 1, 2, false⟩) : s.advanced i = next :=
    advanced_of_encodingOf s he
  refine ⟨⟨rfl, ?_⟩, ⟨rfl, ?_⟩, ⟨rfl, ?_⟩, ⟨rfl, ?_⟩, ⟨rfl, ?_⟩, ⟨rfl, ?_⟩⟩
  · rw [exec_update (m := .tax) s rfl (by decide) rfl, implied rfl, setZN_eq_flags]
  · rw [exec_update (m := .tay) s rfl (by decide) rfl, implied rfl, setZN_eq_flags]
  · rw [exec_update (m := .txa) s rfl (by decide) rfl, implied rfl, setZN_eq_flags]
  · rw [exec_update (m := .tya) s rfl (by decide) rfl, implied rfl, setZN_eq_flags]
  · rw [exec_update (m := .tsx) s rfl (by decide) rfl, implied rfl, setZN_eq_flags]
  · rw [exec_update (m := .txs) s rfl (by decide) rfl, implied rfl]

end Sys2Proof.Machine
end

section
/-! Logic and comparison (spec/42_alu.md). What an instruction gives whose operation is a function of the byte read and of a
register; and with it, the results of AND, ORA, EOR, BIT and of the comparisons. -/

namespace Sys2Proof.Machine

open Sys2Proof

/-! ## Instructions that combine their operand with a register -/

/-- Where the operand can be read, an instruction whose handler is a read and then `f` of a part of the CPU, of the byte and of
the state ends in `f` of that part as it was before: neither the advance (R156 step 6), which moves only `PC` and `cycles`, nor
the read writes it. -/
theorem exec_readThen_cpu {α : Type} {i : Instr} {m : Mnemonic} {s : State} {reg : Cpu → α} {f : α → Byte → State → State}
    (h : i.mnemonic = m) (hm : m ∉ [.sbc, .nop, .illegal, .jmp])
    (hf : handlerOf m = readThen fun b t => f (reg t.cpu) b t) (hreg : reg (s.advanced i).cpu = reg s.cpu)
    (hr : s.operandReadable i.operand = true) :
    ∃ b t, s.Reads i b t ∧ exec i s = .next (f (reg s.cpu) b t) := by
  obtain ⟨b, t, ht, hexec⟩ := exec_readThen h hm hf hr
  rw [(reads_frame ht).cpu, hreg] at hexec
  exact ⟨b, t, ht, hexec⟩

/-- The end of AND, ORA and EOR, as the statements write it (R240 to R243). -/
theorem logic_eq_flags (s : State) (v : Byte) :
    s.logic v = (s.setA v).flags (fun p => { p with z := decide (v = 0), n := v.getLsbD 7 }) :=
  setZN_eq_flags (s.setA v) v

/-- C, Z and N of a comparison, as the statements write them: the difference is 0 where the operands are equal (R252). -/
theorem compare_eq_flags (s : State) (r m : Byte) :
    s.compare r m = s.flags (fun p =>
      { p with c := decide (m.toNat ≤ r.toNat), z := decide (r = m), n := (r - m).getLsbD 7 }) := by
  have hz : decide (r = m) = decide (r - m = 0) := decide_eq_decide.mpr (by bv_omega)
  rw [State.compare, setZN_eq_flags, hz]
  rfl

/-! ## The statements -/

/-- Settles O17: AND, ORA and EOR are `State.logic` of A and the operand; BIT is a change of the flags from A and the operand. -/
theorem logicResults : Obligations.LogicResults := by
  unfold Obligations.LogicResults
  intro i s result
  have logic {m : Mnemonic} (op : Byte → Byte → Byte) (h : i.mnemonic = m) (hm : m ∉ [.sbc, .nop, .illegal, .jmp])
      (hf : handlerOf m = readThen fun b t => t.logic (op t.cpu.a b)) : result (op s.cpu.a) := by
    intro hr
    simpa only [logic_eq_flags] using
      exec_readThen_cpu (reg := (·.a)) (f := fun a b t => t.logic (op a b)) h hm hf rfl hr
  refine ⟨fun h => ⟨?_, ?_⟩, fun h => ⟨?_, ?_⟩, fun h => ⟨?_, ?_⟩, fun h => ⟨?_, ?_⟩⟩
  · exact encodingOf_of_rows (by decide) h
  · exact logic (· &&& ·) h (by decide) rfl
  · exact encodingOf_of_rows (by decide) h
  · exact logic (· ||| ·) h (by decide) rfl
  · exact encodingOf_of_rows (by decide) h
  · exact logic (· ^^^ ·) h (by decide) rfl
  · exact encodingOf_of_rows (by decide) h
  · exact exec_readThen_cpu (reg := (·.a))
      (f := fun a b t => t.flags fun p => { p with z := decide (a &&& b = 0), v := b.getLsbD 6, n := b.getLsbD 7 })
      h (by decide) rfl rfl

/-- Settles O19: each comparison is `State.compare` of its register and the operand. -/
theorem compareResults : Obligations.CompareResults := by
  unfold Obligations.CompareResults
  intro i s result
  have compare {m : Mnemonic} (reg : Cpu → Byte) (h : i.mnemonic = m) (hm : m ∉ [.sbc, .nop, .illegal, .jmp])
      (hf : handlerOf m = readThen fun b t => t.compare (reg t.cpu) b) (hreg : reg (s.advanced i).cpu = reg s.cpu) :
      result (reg s.cpu) := by
    intro hr
    simpa only [compare_eq_flags] using exec_readThen_cpu (f := fun r b t => t.compare r b) h hm hf hreg hr
  refine ⟨fun h => ⟨?_, ?_⟩, fun h => ⟨?_, ?_⟩, fun h => ⟨?_, ?_⟩⟩
  · exact encodingOf_of_rows (by decide) h
  · exact compare (·.a) h (by decide) rfl rfl
  · exact encodingOf_of_rows (by decide) h
  · exact compare (·.x) h (by decide) rfl rfl
  · exact encodingOf_of_rows (by decide) h
  · exact compare (·.y) h (by decide) rfl rfl

end Sys2Proof.Machine
end

section
/-! Increments and shifts (spec/43_rmw.md). What an instruction gives that reads its operand, stores a function of the byte and
of the carry, and sets flags; and with it, the results of INC, DEC, INX, INY, DEX, DEY and of the shifts and rotates. -/

namespace Sys2Proof.Machine

open Sys2Proof

/-! ## Instructions of one data read and one data write -/

/-- The handler that reads its operand, changes the flags by `pre`, stores `value` to the operand, and ends in `post` of the
byte stored. The carry that `pre` and `value` take is the one before the change of the flags (R260). -/
def readModifyWrite (value : Bool → Byte → Byte) (pre : Bool → Byte → Flags → Flags) (post : Byte → State → State) :
    Handler := fun o r s => do
  let (b, s) ← readOperand o r s
  let c := s.cpu.p.c
  let s ← writeOperand o r (value c b) (s.flags (pre c b))
  pure (post (value c b) s)

/-- What can be written does not depend on the flags. -/
theorem flags_writable (s : State) (f : Flags → Flags) (a : Word) (v : Byte) :
    (s.flags f).writable a v = s.writable a v := rfl

/-- The data read leaves the carry. -/
theorem reads_carry {i : Instr} {s t : State} {b : Byte} (h : s.Reads i b t) : t.cpu.p.c = s.cpu.p.c := by
  rw [(reads_frame h).cpu]
  rfl

/-- In memory: where the operand can be read, and where after the read the value can be written, the instruction ends in `post`
of that one bus write. -/
theorem exec_readModifyWrite {i : Instr} {m : Mnemonic} {s : State} {value : Bool → Byte → Byte}
    {pre : Bool → Byte → Flags → Flags} {post : Byte → State → State} (h : i.mnemonic = m)
    (hm : m ∉ [.sbc, .nop, .illegal, .jmp]) (hf : handlerOf m = readModifyWrite value pre post)
    (hacc : operandMode i.operand ≠ .acc) (hr : s.operandReadable i.operand = true) :
    ∃ b t, s.Reads i b t ∧ (t.writable (s.target i.operand).ea (value s.cpu.p.c b) = true →
      ∃ u, memWrite (s.target i.operand).ea (value s.cpu.p.c b) (t.flags (pre s.cpu.p.c b)) = .ok u ∧
        exec i s = .next (post (value s.cpu.p.c b) u)) := by
  obtain ⟨b, t, ht⟩ := reads_ok hr
  refine ⟨b, t, ht, fun hw => ?_⟩
  rw [← flags_writable t (pre s.cpu.p.c b)] at hw
  obtain ⟨u, hu⟩ := memWrite_ok hw
  refine ⟨u, hu, ?_⟩
  have hc := reads_carry ht
  rw [State.Reads] at ht
  rw [exec_of_mnemonic s h hm, hf, readModifyWrite, ht, ok_bind]
  simp only [hc]
  rw [writeOperand_eq_memWrite _ _ _ hacc, hu, ok_bind]
  rfl

/-! ## The accumulator forms -/

theorem eq_acc_of_operandMode {o : Operand} (h : operandMode o = .acc) : o = .acc := by
  cases o <;> first | rfl | cases h

/-- Each accumulator form is one byte and takes two cycles (R143, R267 to R270). -/
theorem encodingOf_acc {i : Instr} (h : operandMode i.operand = .acc) : encodingOf i = ⟨i.opcode, .acc, 1, 2, false⟩ := by
  have rows : ∀ op, (encodingOf (opcodeRow op)).mode = .acc →
      encodingOf (opcodeRow op) = ⟨(encodingOf (opcodeRow op)).opcode, .acc, 1, 2, false⟩ := by decide
  have hrow := rows i.opcode
  rw [encodingOf_opcodeRow] at hrow
  exact hrow h

/-- On A: the instruction completes from every state. -/
theorem exec_readModifyWrite_acc {i : Instr} {m : Mnemonic} {s : State} {value : Bool → Byte → Byte}
    {pre : Bool → Byte → Flags → Flags} {post : Byte → State → State} (h : i.mnemonic = m)
    (hm : m ∉ [.sbc, .nop, .illegal, .jmp]) (hf : handlerOf m = readModifyWrite value pre post)
    (hacc : operandMode i.operand = .acc) :
    exec i s = .next (post (value s.cpu.p.c s.cpu.a)
      (((s.advanced i).flags (pre s.cpu.p.c s.cpu.a)).setA (value s.cpu.p.c s.cpu.a))) := by
  rw [exec_of_mnemonic s h hm, hf, eq_acc_of_operandMode hacc]
  rfl

/-! ## Nine-bit shifts -/

/-- `shift` sets the carry before the store, Z and N after it. -/
theorem shift_eq_readModifyWrite (f : Bool → Byte → Byte × Bool) :
    shift f = readModifyWrite (fun c m => (f c m).1) (fun c m p => { p with c := (f c m).2 }) (fun v t => t.setZN v) := rfl

theorem getLsbD_seven (m : Byte) : m.getLsbD 7 = decide (128 ≤ m.toNat) :=
  (BitVec.msb_eq_getLsbD_last m).symm.trans (BitVec.msb_eq_decide m)

theorem getLsbD_zero (m : Byte) : m.getLsbD 0 = decide (m.toNat % 2 = 1) := by
  rw [BitVec.getLsbD, Nat.testBit_zero]

/-- ASL doubles the byte; bit 7 goes out (R267). -/
theorem shiftLeft_eq (m : Byte) : shiftLeft m = (BitVec.ofNat 8 (2 * m.toNat), decide (128 ≤ m.toNat)) := by
  rw [shiftLeft, getLsbD_seven]
  rfl

/-- LSR halves the byte; bit 0 goes out (R268). -/
theorem shiftRight_eq (m : Byte) : shiftRight m = (BitVec.ofNat 8 (m.toNat / 2), decide (m.toNat % 2 = 1)) := by
  rw [shiftRight, getLsbD_zero]
  congr 1
  bv_omega

theorem bit_zeroExtend_toNat (c : Bool) : ((bit c).zeroExtend 8 : Byte).toNat = c.toNat := by
  cases c <;> rfl

/-- ROL is ASL with the old carry at bit 0, which the shift has left free (R269). -/
theorem rotateLeft_eq (c : Bool) (m : Byte) :
    rotateLeft c m = (BitVec.ofNat 8 (2 * m.toNat + c.toNat), decide (128 ≤ m.toNat)) := by
  have hshift : (m <<< 1).toNat = 2 ^ 1 * (m.toNat % 128) := by
    rw [BitVec.toNat_shiftLeft, Nat.shiftLeft_eq]
    omega
  have hc := c.toNat_lt
  rw [rotateLeft, getLsbD_seven]
  congr 1
  apply BitVec.eq_of_toNat_eq
  rw [BitVec.toNat_or, hshift, bit_zeroExtend_toNat, ← Nat.two_pow_add_eq_or_of_lt hc, BitVec.toNat_ofNat]
  omega

/-- ROR is LSR with the old carry at bit 7, which the shift has left free (R270). -/
theorem rotateRight_eq (c : Bool) (m : Byte) :
    rotateRight c m = (BitVec.ofNat 8 (m.toNat / 2 + 128 * c.toNat), decide (m.toNat % 2 = 1)) := by
  have hc := c.toNat_lt
  have hhigh : ((bit c).zeroExtend 8 <<< 7 : Byte).toNat = 2 ^ 7 * c.toNat := by
    rw [BitVec.toNat_shiftLeft, bit_zeroExtend_toNat, Nat.shiftLeft_eq]
    omega
  have hlow : m.toNat / 2 < 2 ^ 7 := by omega
  rw [rotateRight, getLsbD_zero]
  congr 1
  apply BitVec.eq_of_toNat_eq
  rw [BitVec.toNat_or, hhigh, BitVec.toNat_ushiftRight, Nat.shiftRight_eq_div_pow, Nat.or_comm,
    ← Nat.two_pow_add_eq_or_of_lt hlow, BitVec.toNat_ofNat]
  omega

/-! ## The statements -/

/-- Settles O20: INC and DEC are one read, one write of the neighbouring byte, then Z and N of it; INX, INY, DEX and DEY are
total changes of the state. -/
theorem incrementResults : Obligations.IncrementResults := by
  unfold Obligations.IncrementResults
  intro i s ea zn modifies next
  have steps {m : Mnemonic} {f : Byte → Byte} (h : i.mnemonic = m) (hm : m ∉ [.sbc, .nop, .illegal, .jmp])
      (hacc : ∀ op, (opcodeRow op).mnemonic = m → (encodingOf (opcodeRow op)).mode ≠ .acc)
      (hf : handlerOf m = readModifyWrite (fun _ => f) (fun _ _ p => p) (fun v t => t.setZN v)) : modifies f :=
    exec_readModifyWrite h hm hf (encodingOf_of_rows (P := (·.mode ≠ .acc)) hacc h)
  have implied {i : Instr} {op : Byte} (he : encodingOf i = ⟨op, .imp, 1, 2, false⟩) : s.advanced i = next :=
    advanced_of_encodingOf s he
  refine ⟨fun h => ⟨?_, ?_⟩, fun h => ⟨?_, ?_⟩, ⟨rfl, ?_⟩, ⟨rfl, ?_⟩, ⟨rfl, ?_⟩, ⟨rfl, ?_⟩⟩
  · exact encodingOf_of_rows (by decide) h
  · exact steps h (by decide) (by decide) rfl
  · exact encodingOf_of_rows (by decide) h
  · exact steps h (by decide) (by decide) rfl
  · rw [exec_update (m := .inx) s rfl (by decide) rfl, implied rfl, setZN_eq_flags]
  · rw [exec_update (m := .iny) s rfl (by decide) rfl, implied rfl, setZN_eq_flags]
  · rw [exec_update (m := .dex) s rfl (by decide) rfl, implied rfl, setZN_eq_flags]
  · rw [exec_update (m := .dey) s rfl (by decide) rfl, implied rfl, setZN_eq_flags]

/-- Settles O21: each of ASL, LSR, ROL and ROR is `shift` of a nine-bit shift of carry and operand. -/
theorem shiftResults : Obligations.ShiftResults := by
  unfold Obligations.ShiftResults
  intro i s c zn carry ea next shifts
  have shifted {m : Mnemonic} {f : Bool → Byte → Byte × Bool} {result : Byte → Byte} {out : Byte → Bool}
      (h : i.mnemonic = m) (hm : m ∉ [.sbc, .nop, .illegal, .jmp]) (hf : handlerOf m = shift f)
      (hv : ∀ b, f s.cpu.p.c b = (result b, out b)) : shifts result out := by
    rw [shift_eq_readModifyWrite] at hf
    refine ⟨fun hacc => ?_, fun hacc hr => ?_⟩
    · have hnext : s.advanced i = next := advanced_of_encodingOf s (encodingOf_acc hacc)
      simpa only [hv, hnext, setZN_eq_flags] using exec_readModifyWrite_acc (s := s) h hm hf hacc
    · simpa only [hv, setZN_eq_flags] using exec_readModifyWrite h hm hf hacc hr
  refine ⟨fun h => ⟨?_, ?_⟩, fun h => ⟨?_, ?_⟩, fun h => ⟨?_, ?_⟩, fun h => ⟨?_, ?_⟩⟩
  · exact encodingOf_of_rows (by decide) h
  · exact shifted h (f := fun _ => shiftLeft) (by decide) rfl shiftLeft_eq
  · exact encodingOf_of_rows (by decide) h
  · exact shifted h (f := fun _ => shiftRight) (by decide) rfl shiftRight_eq
  · exact encodingOf_of_rows (by decide) h
  · exact shifted h (by decide) rfl (rotateLeft_eq _)
  · exact encodingOf_of_rows (by decide) h
  · exact shifted h (by decide) rfl (rotateRight_eq _)

end Sys2Proof.Machine
end

section
/-! Control flow (spec/44_control_flow.md). What the branch law gives for an instruction whose handler is `branch`; pushing and
pulling a word; reading a pointer; and with these, the results of the jumps, JSR, RTS and the branches. -/

namespace Sys2Proof.Machine

open Sys2Proof

/-! ## Branches -/

theorem hiByte_toNat (w : Word) : (hiByte w).toNat = w.toNat / 256 := by
  rw [hiByte, BitVec.extractLsb'_toNat, Nat.shiftRight_eq_div_pow]
  have := w.isLt
  omega

/-- Two addresses have one high byte where their page numbers are equal (R155). -/
theorem hiByte_eq_iff (a b : Word) : hiByte a = hiByte b ↔ a.toNat / 256 = b.toNat / 256 := by
  rw [← hiByte_toNat, ← hiByte_toNat, BitVec.toNat_inj]

/-- The branch law (R285), for an instruction whose handler is `branch cond`. -/
theorem exec_branch {i : Instr} {m : Mnemonic} {cond : Flags → Bool} {op d : Byte} (s : State) (h : i.mnemonic = m)
    (hm : m ∉ [.sbc, .nop, .illegal, .jmp]) (hf : handlerOf m = branch cond) (ho : i.operand = .rel d)
    (he : encodingOf i = ⟨op, .rel, 2, 2, false⟩) :
    exec i s = .next { s with cpu := { s.cpu with
      pc := if cond s.cpu.p then s.cpu.pc + 2 + d.signExtend 16 else s.cpu.pc + 2,
      cycles := s.cpu.cycles + (if cond s.cpu.p then
        (if (s.cpu.pc + 2 + d.signExtend 16).toNat / 256 = (s.cpu.pc + 2).toNat / 256 then 3 else 4) else 2) } } := by
  have hnext : s.advanced i = { s with cpu := { s.cpu with pc := s.cpu.pc + 2, cycles := s.cpu.cycles + 2 } } :=
    advanced_of_encodingOf s he
  have htarget : s.target (.rel d) = .plain (s.cpu.pc + 2 + d.signExtend 16) := rfl
  rw [exec_of_mnemonic s h hm, hf, ho, hnext, htarget, branch]
  simp only [hiByte_eq_iff, Resolved.plain]
  cases cond s.cpu.p with
  | false => rfl
  | true =>
    by_cases hpage : (s.cpu.pc + 2 + d.signExtend 16).toNat / 256 = (s.cpu.pc + 2).toNat / 256
    · simp only [hpage, if_true]
      rfl
    · simp only [hpage, if_true, if_false]
      rfl

/-! ## Words on the stack -/

/-- The stack slots are cells `0x100` to `0x1FF` of internal RAM (R83, R220). -/
theorem ramIndex_stackAddr (b : Byte) : ramIndex (stackAddr b) = 0x100 + b.toNat := by
  have := b.isLt
  rw [ramIndex, stackAddr_toNat]
  omega

/-- Pushing a word writes its high byte to the slot of `S` and its low byte to the slot below, which wraps (R220). -/
theorem pushWord_eq (w : Word) (s : State) :
    pushWord w s = .ok ((s.setRam ((s.bus.ram.write (0x100 + s.cpu.s.toNat) (hiByte w)).write
      (0x100 + (s.cpu.s.toNat + 255) % 256) (loByte w))).setS (s.cpu.s - 2)) := by
  have hslot : (s.cpu.s - 1).toNat = (s.cpu.s.toNat + 255) % 256 := by bv_omega
  have htop : s.cpu.s - 1 - 1 = s.cpu.s - 2 := by bv_omega
  rw [pushWord, push_eq, ok_bind, push_eq, ramIndex_stackAddr, ramIndex_stackAddr, State.setS_s, hslot, htop]
  rfl

/-- Pulling a word reads its low byte from the slot above `S` and its high byte from the next, both with wrap (R220). -/
theorem pullWord_eq (s : State) :
    pullWord s = .ok (wordOf (s.bus.ram.read (0x100 + (s.cpu.s.toNat + 2) % 256))
      (s.bus.ram.read (0x100 + (s.cpu.s.toNat + 1) % 256)), s.setS (s.cpu.s + 2)) := by
  have hfirst : (s.cpu.s + 1).toNat = (s.cpu.s.toNat + 1) % 256 := by bv_omega
  have hsecond : (s.cpu.s + 1 + 1).toNat = (s.cpu.s.toNat + 2) % 256 := by bv_omega
  have htop : s.cpu.s + 1 + 1 = s.cpu.s + 2 := by bv_omega
  rw [pullWord, pull_eq, ok_bind]
  simp only [pull_eq, ok_bind, ramIndex_stackAddr, State.setS_s, State.setS_bus, hfirst, hsecond]
  rw [htop]
  rfl

/-! ## JMP, JSR and RTS -/

/-- A pointer can be read where both its bytes can: the bytes are those of two bus reads, the second in the same page (R152). -/
theorem readPointer_ok {p : Word} (s : State) (hlow : readable p = true)
    (hhigh : readable (wordOf (hiByte p) (loByte p + 1)) = true) :
    ∃ l h t u, memRead p s = .ok (l, t) ∧ memRead (wordOf (hiByte p) (loByte p + 1)) t = .ok (h, u) ∧
      readPointer p s = .ok (wordOf h l, u) := by
  obtain ⟨l, t, ht⟩ := memRead_ok s hlow
  obtain ⟨h, u, hu⟩ := memRead_ok t hhigh
  refine ⟨l, h, t, u, ht, hu, ?_⟩
  rw [readPointer, ht, ok_bind]
  simp only []
  rw [hu]
  rfl

/-- Where the pointer gives `w` and leaves `u`, `JMP (ind)` ends in `u` at `w` (R152, R280). -/
theorem exec_jmpInd {p w : Word} {s u : State} (h : readPointer p s = .ok (w, u)) :
    exec (.jmpInd p) s = .next { u with cpu := { u.cpu with pc := w, cycles := u.cpu.cycles + 5 } } := by
  have hresolve : resolve (.ind p) s = .ok (.plain w, u) := by
    rw [resolve, h]
    rfl
  rw [exec_eq _ s rfl, instruction, show (Instr.jmpInd p).operand = .ind p from rfl, hresolve]
  rfl

/-! ## The statements -/

/-- Settles O22: JMP takes its resolved address; JSR and RTS push and pull a word. -/
theorem jumpResults : Obligations.JumpResults := by
  unfold Obligations.JumpResults
  intro s a at' last second
  refine ⟨⟨rfl, ?_⟩, ⟨rfl, fun hlow hhigh => ?_⟩, ⟨rfl, ?_⟩, ⟨rfl, ?_⟩⟩
  · rw [exec_run (i := .jmpAbs a) rfl nofun]
    rfl
  · obtain ⟨l, h, t, u, ht, hu, hp⟩ := readPointer_ok s hlow hhigh
    exact ⟨l, h, t, u, ht, hu, exec_jmpInd hp⟩
  · have hlast : last = s.cpu.pc + 3 - 1 := show s.cpu.pc + 2 = _ by bv_omega
    rw [exec_of_mnemonic (m := .jsr) s rfl (by decide), advanced_of_encodingOf s rfl, hlast]
    simp only [handlerOf, jsr, pushWord_eq, ok_bind]
    rfl
  · rw [exec_of_mnemonic (m := .rts) s rfl (by decide), advanced_of_encodingOf s rfl]
    simp only [handlerOf, rts, pullWord_eq, ok_bind]
    rfl

/-- Settles O25: the handler of each branch is `branch` of its condition. -/
theorem branchResults : Obligations.BranchResults := by
  unfold Obligations.BranchResults
  intro s d next target branches
  have law {i : Instr} {op : Byte} (m : Mnemonic) (cond : Flags → Bool) (he : encodingOf i = ⟨op, .rel, 2, 2, false⟩)
      (ho : i.operand = .rel d) (h : i.mnemonic = m) (hm : m ∉ [.sbc, .nop, .illegal, .jmp])
      (hf : handlerOf m = branch cond) : branches i op (cond s.cpu.p) :=
    ⟨he, exec_branch s h hm hf ho he⟩
  refine ⟨?_, ?_, ?_, ?_, ?_, ?_, ?_, ?_⟩
  · exact law .bcc (!·.c) rfl rfl rfl (by decide) rfl
  · exact law .bcs (·.c) rfl rfl rfl (by decide) rfl
  · exact law .beq (·.z) rfl rfl rfl (by decide) rfl
  · exact law .bne (!·.z) rfl rfl rfl (by decide) rfl
  · exact law .bmi (·.n) rfl rfl rfl (by decide) rfl
  · exact law .bpl (!·.n) rfl rfl rfl (by decide) rfl
  · exact law .bvc (!·.v) rfl rfl rfl (by decide) rfl
  · exact law .bvs (·.v) rfl rfl rfl (by decide) rfl

end Sys2Proof.Machine
end

section
/-! The combined instructions (spec/46_unofficial.md). What an instruction gives that stores a new byte and its carry and then
combines the byte with A; and with it, the results of DCP, ISC, SLO, RLA, SRE and RRA. -/

namespace Sys2Proof.Machine

open Sys2Proof

/-! ## Instructions that combine the byte they store with A -/

theorem shiftThen_eq_readModifyWrite (f : Bool → Byte → Byte × Bool) (g : Byte → State → State) :
    shiftThen f g = readModifyWrite (fun c m => (f c m).1) (fun c m p => { p with c := (f c m).2 }) g := rfl

/-- DCP leaves the carry to the comparison: its decrement passes the old carry on (R322). -/
theorem dcp_eq_shiftThen : dcp = shiftThen (fun c m => (m - 1, c)) (fun v t => t.compare t.cpu.a v) := rfl

/-- ISC subtracts with the old carry, which its increment passes on (R323). -/
theorem isc_eq_shiftThen : isc = shiftThen (fun c m => (m + 1, c)) (fun v t => t.addWithCarry (v ^^^ 0xFF)) := rfl

/-- Neither the data read, nor the change of the flags, nor the data write changes A. -/
theorem reads_memWrite_a {i : Instr} {s t u : State} {b v : Byte} {ea : Word} {f : Flags → Flags} (hr : s.Reads i b t)
    (hw : memWrite ea v (t.flags f) = .ok u) : u.cpu.a = s.cpu.a := by
  have hread : t.cpu.a = (s.advanced i).cpu.a := congrArg Cpu.a (reads_frame hr).cpu
  exact (memWrite_frame hw).a.trans hread

/-- Where the operand can be read and the byte written, an instruction whose handler is `shiftThen` stores `result` of the byte
read with the carry `out`, and ends in `g`, which stands for the handler's last part wherever A is still the old A. -/
theorem exec_shiftThen {i : Instr} {m : Mnemonic} {s : State} {f : Bool → Byte → Byte × Bool} {result : Byte → Byte}
    {out : Byte → Bool} {post g : Byte → State → State} (h : i.mnemonic = m) (hm : m ∉ [.sbc, .nop, .illegal, .jmp])
    (hacc : ∀ op, (opcodeRow op).mnemonic = m → (encodingOf (opcodeRow op)).mode ≠ .acc)
    (hf : handlerOf m = shiftThen f post) (hv : ∀ b, f s.cpu.p.c b = (result b, out b))
    (hg : ∀ v u, u.cpu.a = s.cpu.a → post v u = g v u) (hr : s.operandReadable i.operand = true) :
    ∃ b t, s.Reads i b t ∧ (t.writable (s.target i.operand).ea (result b) = true →
      ∃ u, memWrite (s.target i.operand).ea (result b) (t.flags fun p => { p with c := out b }) = .ok u ∧
        exec i s = .next (g (result b) u)) := by
  have hmode : operandMode i.operand ≠ .acc := encodingOf_of_rows (P := (·.mode ≠ .acc)) hacc h
  rw [shiftThen_eq_readModifyWrite] at hf
  obtain ⟨b, t, ht, hstore⟩ := exec_readModifyWrite h hm hf hmode hr
  simp only [hv] at hstore
  refine ⟨b, t, ht, fun hw => ?_⟩
  obtain ⟨u, hu, hexec⟩ := hstore hw
  rw [hg _ u (reads_memWrite_a ht hu)] at hexec
  exact ⟨u, hu, hexec⟩

/-- ROL with the carry out as bit 7 (R269). -/
theorem rotateLeft_eq_getLsbD (c : Bool) (m : Byte) :
    rotateLeft c m = (BitVec.ofNat 8 (2 * m.toNat + c.toNat), m.getLsbD 7) := by
  rw [rotateLeft_eq, getLsbD_seven]

/-- ROR with the carry out as bit 0 (R270). -/
theorem rotateRight_eq_getLsbD (c : Bool) (m : Byte) :
    rotateRight c m = (BitVec.ofNat 8 (m.toNat / 2 + 128 * c.toNat), m.getLsbD 0) := by
  rw [rotateRight_eq, getLsbD_zero]

/-! ## The statement -/

/-- Settles O27: each of the six is `shiftThen` of a change of the byte and of a comparison, an addition or a logical operation
with A. -/
theorem combinedResults : Obligations.CombinedResults := by
  unfold Obligations.CombinedResults
  intro i s ea a c carry logic modifies
  have logical {m : Mnemonic} {f : Bool → Byte → Byte × Bool} {result : Byte → Byte} {out : Byte → Bool}
      (op : Byte → Byte → Byte) (h : i.mnemonic = m) (hm : m ∉ [.sbc, .nop, .illegal, .jmp])
      (hacc : ∀ b, (opcodeRow b).mnemonic = m → (encodingOf (opcodeRow b)).mode ≠ .acc)
      (hf : handlerOf m = shiftThen f fun v t => t.logic (op t.cpu.a v)) (hv : ∀ b, f c b = (result b, out b)) :
      modifies result out (fun r t => logic (op a r) t) :=
    exec_shiftThen h hm hacc hf hv fun v u ha => by rw [ha, logic_eq_flags]
  refine ⟨fun h => ⟨?_, ?_⟩, fun h => ⟨?_, ?_⟩, fun h => ⟨?_, ?_⟩, fun h => ⟨?_, ?_⟩, fun h => ⟨?_, ?_⟩,
    fun h => ⟨?_, ?_⟩⟩
  · exact encodingOf_of_rows (by decide) h
  · exact exec_shiftThen h (by decide) (by decide) dcp_eq_shiftThen (fun _ => rfl)
      (fun v u ha => by rw [ha, compare_eq_flags])
  · exact encodingOf_of_rows (by decide) h
  · exact exec_shiftThen h (by decide) (by decide) isc_eq_shiftThen (fun _ => rfl) (fun _ _ _ => rfl)
  · exact encodingOf_of_rows (by decide) h
  · exact logical (f := fun _ => shiftLeft) (· ||| ·) h (by decide) (by decide) rfl (fun _ => rfl)
  · exact encodingOf_of_rows (by decide) h
  · exact logical (· &&& ·) h (by decide) (by decide) rfl (rotateLeft_eq_getLsbD c)
  · exact encodingOf_of_rows (by decide) h
  · exact logical (f := fun _ => shiftRight) (· ^^^ ·) h (by decide) (by decide) rfl (fun _ => rfl)
  · exact encodingOf_of_rows (by decide) h
  · exact exec_shiftThen h (by decide) (by decide) (post := fun v t => t.addWithCarry v) rfl (rotateRight_eq_getLsbD c)
      (fun _ _ _ => rfl)

end Sys2Proof.Machine
end

section
/-! Encoding and decoding (spec/30_encoding.md). Each of the 256 shapes of the opcode table makes, of any operand bytes, the
instructions whose encodings begin with that opcode; and with this, that decoding inverts encoding. -/

namespace Sys2Proof

open Machine

/-! ## Conditions, and numbers below 4 and 8 -/

theorem ite_of_iff {α : Type} {p q : Prop} [Decidable p] [Decidable q] (h : p ↔ q) (x y : α) :
    (if p then x else y) = if q then x else y := ite_congr (propext h) (fun _ => rfl) fun _ => rfl

theorem xor_eq_true_iff (a b : Bool) : (a ^^ b) = true ↔ ¬ a = b := by
  cases a <;> cases b <;> decide

theorem eq_of_lt_four {n : Nat} (h : n < 4) : n = 0 ∨ n = 1 ∨ n = 2 ∨ n = 3 := by
  omega

theorem eq_of_lt_eight {n : Nat} (h : n < 8) : n = 0 ∨ n = 1 ∨ n = 2 ∨ n = 3 ∨ n = 4 ∨ n = 5 ∨ n = 6 ∨ n = 7 := by
  omega

/-! ## Words of bytes -/

/-- The two bytes of a word make it up again (R6). -/
theorem wordOf_hiByte_loByte (w : Word) : wordOf (hiByte w) (loByte w) = w := by
  apply BitVec.eq_of_toNat_eq
  rw [wordOf_toNat, hiByte_toNat, loByte, BitVec.extractLsb'_toNat, Nat.shiftRight_zero]
  omega

theorem hiByte_wordOf (h l : Byte) : hiByte (wordOf h l) = h := by
  apply BitVec.eq_of_toNat_eq
  rw [hiByte_toNat, wordOf_toNat]
  omega

theorem loByte_wordOf (h l : Byte) : loByte (wordOf h l) = l := by
  apply BitVec.eq_of_toNat_eq
  rw [loByte, BitVec.extractLsb'_toNat, Nat.shiftRight_zero, wordOf_toNat]
  omega

/-! ## Shapes -/

/-- A shape makes instructions of opcode `op`, with the operand bytes it is given as theirs (R141). -/
inductive Shape.Makes (op : Byte) : Shape → Prop where
  | none {i : Instr} : i.opcode = op → i.operand.bytes = [] → Makes op (.none i)
  | byte {k : Byte → Instr} : (∀ b, (k b).opcode = op ∧ (k b).operand.bytes = [b]) → Makes op (.byte k)
  | word {k : Word → Instr} : (∀ a, (k a).opcode = op ∧ (k a).operand.bytes = [loByte a, hiByte a]) → Makes op (.word k)

/-- A shape of two operand bytes, given the two bytes of `a`, low byte first (R141). -/
theorem Shape.instr_word (k : Word → Instr) (a : Word) : (Shape.word k).instr (loByte a) (hiByte a) = k a :=
  congrArg k (wordOf_hiByte_loByte a)

/-- The shape of an instruction's opcode makes that instruction, of its own operand bytes (R158). -/
theorem shapeOf_opcode (i : Instr) :
    (∃ b1 b2, (shapeOf i.opcode).instr b1 b2 = i) ∧ (shapeOf i.opcode).Makes i.opcode := by
  cases i <;> dsimp only [Instr.opcode, Instr.row] <;> first
    | rename_i a; exact ⟨⟨loByte a, hiByte a, Shape.instr_word _ a⟩, .word fun _ => ⟨rfl, rfl⟩⟩
    | rename_i b; exact ⟨⟨b, 0, rfl⟩, .byte fun _ => ⟨rfl, rfl⟩⟩
    | exact ⟨⟨0, 0, rfl⟩, .none rfl rfl⟩

theorem opcode_opcodeRow : ∀ op, (opcodeRow op).opcode = op := by
  decide

/-- Every one of the 256 opcodes has a shape that makes instructions of it (R158, R161). -/
theorem shapeOf_makes (op : Byte) : (shapeOf op).Makes op := by
  simpa only [opcode_opcodeRow] using (shapeOf_opcode (opcodeRow op)).2

/-- An instruction is its opcode's shape, given its own operand bytes. -/
theorem shapeOf_of_instr (i : Instr) :
    (i.operand.bytes = [] ∧ shapeOf i.opcode = .none i) ∨
    (∃ k b, shapeOf i.opcode = .byte k ∧ i = k b ∧ i.operand.bytes = [b]) ∨
    (∃ k a, shapeOf i.opcode = .word k ∧ i = k a ∧ i.operand.bytes = [loByte a, hiByte a]) := by
  obtain ⟨⟨b1, b2, hi⟩, hm⟩ := shapeOf_opcode i
  generalize shapeOf i.opcode = sh at hi hm
  cases hm with
  | none ho hb => subst hi; exact .inl ⟨hb, rfl⟩
  | byte h => subst hi; exact .inr (.inl ⟨_, b1, rfl, rfl, (h b1).2⟩)
  | word h => subst hi; exact .inr (.inr ⟨_, _, rfl, rfl, (h _).2⟩)

/-! ## The decoder, by shape -/

/-- Of the shapes that read no operand byte, only that of BRK skips one (R284). -/
theorem decode_none {op : Byte} {i : Instr} (h : shapeOf op = .none i) (hi : i ≠ .brk) (rest : List Byte) :
    decode (op :: rest) = .ok (i, rest) := by
  unfold decode
  simp only [h]

theorem decode_byte {op b : Byte} {k : Byte → Instr} (h : shapeOf op = .byte k) (rest : List Byte) :
    decode (op :: b :: rest) = .ok (k b, rest) := by
  unfold decode
  simp only [h]

theorem decode_word {op : Byte} {k : Word → Instr} (h : shapeOf op = .word k) (a : Word) (rest : List Byte) :
    decode (op :: loByte a :: hiByte a :: rest) = .ok (k a, rest) := by
  unfold decode
  simp only [h, wordOf_hiByte_loByte]

theorem decode_brk (rest : List Byte) : decode (0x00 :: rest) = .ok (.brk, rest.drop 1) := rfl

theorem encode_of_ne_brk {i : Instr} (h : i ≠ .brk) : encode i = i.opcode :: i.operand.bytes := by
  rw [encode, if_neg h, List.append_nil]

/-- Settles O1: an instruction is its opcode's shape of its operand bytes, which is how the decoder makes it. -/
theorem decodeEncode : Obligations.DecodeEncode := by
  unfold Obligations.DecodeEncode
  intro i rest
  by_cases hbrk : i = .brk
  · subst hbrk
    exact decode_brk (0x00 :: rest)
  · rw [encode_of_ne_brk hbrk]
    obtain ⟨hb, hs⟩ | ⟨k, b, hs, hi, hb⟩ | ⟨k, a, hs, hi, hb⟩ := shapeOf_of_instr i
    · rw [hb]
      exact decode_none hs hbrk rest
    · rw [hb, List.cons_append, List.singleton_append, decode_byte hs, ← hi]
    · rw [hb, List.cons_append, List.cons_append, List.singleton_append, decode_word hs, ← hi]

/-! ## What decodes -/

/-- What decodes is the encoding of its instruction, or is BRK with any padding byte, or with none at the end of the bytes. -/
inductive Decodes : List Byte → Instr → List Byte → Prop where
  | encoding {bs rest : List Byte} {i : Instr} (hi : i ≠ .brk) (h : bs = i.opcode :: (i.operand.bytes ++ rest)) :
      Decodes bs i rest
  | brk (pad : Byte) (rest : List Byte) : Decodes (0x00 :: pad :: rest) .brk rest
  | brkAtEnd : Decodes [0x00] .brk []

theorem ne_brk_of_bytes {i : Instr} {b : Byte} {l : List Byte} (h : i.operand.bytes = b :: l) : i ≠ .brk := by
  rintro rfl
  cases h

theorem decodes_of_decode {bs rest : List Byte} {i : Instr} (h : decode bs = .ok (i, rest)) : Decodes bs i rest := by
  cases bs with
  | nil => cases h
  | cons op bs =>
    have hm := shapeOf_makes op
    unfold decode at h
    simp only [] at h
    generalize shapeOf op = sh at h hm
    split at h
    · cases h
      cases hm with
      | none ho hb =>
        subst ho
        cases bs with
        | nil => exact .brkAtEnd
        | cons pad rest => exact .brk pad rest
    · next hi =>
      cases h
      cases hm with
      | none ho hb => exact .encoding hi (by rw [ho, hb, List.nil_append])
    · next b _ =>
      cases h
      cases hm with
      | byte hk =>
        obtain ⟨ho, hb⟩ := hk b
        exact .encoding (ne_brk_of_bytes hb) (by rw [ho, hb, List.singleton_append])
    · next b1 b2 _ =>
      cases h
      cases hm with
      | word hk =>
        obtain ⟨ho, hb⟩ := hk (wordOf b2 b1)
        exact .encoding (ne_brk_of_bytes hb) (by rw [ho, hb, loByte_wordOf, hiByte_wordOf]; rfl)
    all_goals cases h

/-- Settles O2: by the shape of the first byte, what was decoded is the shape's instruction of the bytes after it. -/
theorem decodeDetermines : Obligations.DecodeDetermines := by
  unfold Obligations.DecodeDetermines
  intro bs rest i h
  cases decodes_of_decode h with
  | encoding hi hbs => exact ⟨fun _ => by rw [hbs, encode_of_ne_brk hi, List.cons_append], fun hbrk => absurd hbrk hi⟩
  | brk pad => exact ⟨fun hi => absurd rfl hi, fun _ => ⟨[pad], rfl, .inl rfl⟩⟩
  | brkAtEnd => exact ⟨fun hi => absurd rfl hi, fun _ => ⟨[], rfl, .inr ⟨rfl, rfl⟩⟩⟩

/-- Settles O3: the decoder and the classes, run on the bytes of the statement. -/
theorem decodedWords : Obligations.DecodedWords := by
  unfold Obligations.DecodedWords
  refine ⟨⟨rfl, rfl, rfl, rfl, rfl, rfl, rfl, rfl, rfl, rfl, rfl, rfl, rfl, rfl, rfl, rfl⟩, ?_, ?_, ?_, ?_⟩
  · decide +kernel
  · decide +kernel
  · decide +kernel
  · decide +kernel

end Sys2Proof
end

section
/-! The step (spec/30_encoding.md R156, spec/63_console.md R700). What a step can be, said once; and with it, that every step keeps
the invariant, that a step that stops records its fault, that a stall runs out, and that a step runs what it fetches. -/

namespace Sys2Proof.Machine

open Sys2Proof

/-! ## What a step is -/

theorem step_of_fault {s : State} {r : FaultRecord} (h : s.fault = some r) : step s = .fault (s.raise r) := by
  unfold step
  rw [h]
  rfl

theorem step_of_idle {s : State} (hf : s.fault = none) (hi : 0 < s.cpu.idle) :
    step s = .next (s.idleStep.runDevices s) := by
  unfold step
  rw [hf]
  exact if_pos hi

theorem step_of_pollAndFetch_error {s : State} {f : Fault} (hf : s.fault = none) (hi : s.cpu.idle = 0)
    (h : pollAndFetch s = .error f) : step s = .fault f := by
  unfold step
  simp only [hf, hi, h]
  rfl

theorem step_of_pollAndFetch {s t : State} {i : Instr} (hf : s.fault = none) (hi : s.cpu.idle = 0)
    (h : pollAndFetch s = .ok (i, t)) : step s = afterInstruction s (exec i t) := by
  unfold step
  simp only [hf, hi, h]
  rfl

/-! ## The invariant -/

/-- Whatever a step answers, next state or fault, meets the invariant. -/
theorem keeps_step {s : State} (h : s.Inv) : KeepsOutcome (step s) := by
  cases hf : s.fault with
  | some r =>
    rw [step_of_fault hf]
    exact inv_raise h r
  | none =>
    rcases Nat.eq_zero_or_pos s.cpu.idle with hi | hi
    · have hk := keeps_pollAndFetch h
      cases hp : pollAndFetch s with
      | error f =>
        rw [step_of_pollAndFetch_error hf hi hp]
        exact hk.of_error hp
      | ok p =>
        rw [step_of_pollAndFetch hf hi hp]
        exact keeps_afterInstruction (keeps_exec p.1 (hk.of_ok hp)) s
    · rw [step_of_idle hf hi]
      exact inv_devices _ h

/-- Settles O10: the poll, the fetch, the meaning and the devices keep the invariant, also where one of them stops. -/
theorem stepKeepsInvariant : Obligations.StepKeepsInvariant := by
  unfold Obligations.StepKeepsInvariant
  intro s h
  have hk := keeps_step h
  refine ⟨fun t ht => ?_, fun f hf => ?_⟩
  · rwa [ht] at hk
  · rwa [hf] at hk

end Sys2Proof.Machine
end

section
/-! Steps that run what they fetch, and steps that do not (spec/30_encoding.md R156, spec/60_exceptions.md R400 to R402, R435): the
fetch of an instruction in storage, the stop of an opcode without a handler, the idle step. -/

namespace Sys2Proof.Machine

open Sys2Proof

/-! ## Fetching -/

/-- The class of an instruction is that of its opcode. -/
theorem cls_opcodeRow (i : Instr) : (opcodeRow i.opcode).cls = i.cls := by
  cases i <;> (dsimp only [Instr.opcode, Instr.row]; rfl)

theorem hasHandler_opcode (extras : Bool) (i : Instr) : hasHandler extras i.opcode = i.wellFormed extras :=
  congrArg (·.hasHandler extras) (cls_opcodeRow i)

/-- After the opcode the machine reads the instruction's operand bytes. -/
theorem operandBytes_opcode (i : Instr) : (shapeOf i.opcode).operandBytes = i.operand.bytes.length := by
  obtain ⟨hb, hs⟩ | ⟨k, b, hs, -, hb⟩ | ⟨k, a, hs, -, hb⟩ := shapeOf_of_instr i <;> rw [hs, hb] <;> rfl

/-- Opcode and operand bytes decode to the instruction; no padding byte is needed (log 15). -/
theorem decode_opcode_bytes (i : Instr) : decode (i.opcode :: i.operand.bytes) = .ok (i, []) := by
  by_cases hi : i = .brk
  · subst hi
    rfl
  · rw [← encode_of_ne_brk hi, ← List.append_nil (encode i)]
    exact decodeEncode i []

/-- Bytes of storage are read without any side effect. -/
theorem readBytes_peek {s : State} : ∀ {bs : List Byte} {a : Word},
    (∀ k b, bs[k]? = some b → peek (a + BitVec.ofNat 16 k) s = some b) → readBytes bs.length a s = .ok (bs, s) := by
  intro bs
  induction bs with
  | nil => exact fun _ => rfl
  | cons b bs ih =>
    intro a h
    have hb : peek a s = some b := by simpa using h 0 b rfl
    have hrest : readBytes bs.length (a + 1) s = .ok (bs, s) := by
      refine ih fun k c hc => ?_
      have hk := h (k + 1) c hc
      rwa [show a + BitVec.ofNat 16 (k + 1) = a + 1 + BitVec.ofNat 16 k by
        rw [BitVec.add_assoc, Nat.add_comm, BitVec.ofNat_add]; rfl] at hk
    rw [List.length_cons, readBytes, memRead_peek hb]
    simp only [ok_bind, hrest]
    rfl

/-- An instruction that stands in storage and has a handler is fetched without any side effect (R156 steps 3 to 5). -/
theorem fetch_peek {i : Instr} {t : State} (hw : i.wellFormed t.unofficialExtras = true)
    (ho : peek t.cpu.pc t = some i.opcode)
    (hb : ∀ k b, i.operand.bytes[k]? = some b → peek (t.cpu.pc + 1 + BitVec.ofNat 16 k) t = some b) :
    fetch t = .ok (i, t) := by
  unfold fetch
  simp only [memRead_peek ho, ok_bind, hasHandler_opcode, hw, operandBytes_opcode, readBytes_peek hb, decode_opcode_bytes,
    if_true]
  rfl

/-- An opcode without a handler stops the fetch before any operand byte is read (R159, R403). -/
theorem fetch_stop {i : Instr} {t : State} (hw : i.wellFormed t.unofficialExtras = false)
    (ho : peek t.cpu.pc t = some i.opcode) : fetch t = .error (t.raise (.illegalOpcode i.opcode t.cpu.pc)) := by
  unfold fetch
  simp only [memRead_peek ho, ok_bind, hasHandler_opcode, hw]
  rfl

theorem pollAndFetch_of_poll {s t : State} (h : interruptPoll s = .ok t) : pollAndFetch s = fetch t := by
  rw [pollAndFetch, h, ok_bind]

/-- Settles O4: the fetch gives the instruction and leaves the state that the poll left. -/
theorem stepRunsDecoded : Obligations.StepRunsDecoded := by
  unfold Obligations.StepRunsDecoded
  intro s t i hf hi hp hw ho hb
  rw [step_of_pollAndFetch hf hi ((pollAndFetch_of_poll hp).trans (fetch_peek hw ho hb))]
  cases exec i t <;> rfl

/-! ## Opcodes without a handler -/

theorem wellFormed_false {i : Instr} {extras : Bool} (h : i.cls = .illegal ∨ (i.cls = .extra ∧ extras = false)) :
    i.wellFormed extras = false := by
  obtain h | ⟨h, rfl⟩ := h <;> rw [Instr.wellFormed, h] <;> rfl

/-- Settles O5: neither the meaning nor the fetch of such an opcode does anything but raise the fault. -/
theorem undispatchedStops : Obligations.UndispatchedStops := by
  unfold Obligations.UndispatchedStops
  intro i t h record stop
  have hw := wellFormed_false h
  refine ⟨exec_stop i t hw, fun s hf hi hp ho => ?_, fun hc => ?_⟩
  · exact step_of_pollAndFetch_error hf hi ((pollAndFetch_of_poll hp).trans (fetch_stop hw ho))
  · have rows : ∀ op, (opcodeRow op).cls = .illegal →
        op ∈ [0x02, 0x12, 0x22, 0x32, 0x42, 0x52, 0x62, 0x72, 0x92, 0xB2, 0xD2, 0xF2, 0xAB] := by decide
    exact rows i.opcode ((cls_opcodeRow i).trans hc)

/-! ## The dots after an instruction -/

/-- What the dots of a step can change of the machine around the PPU and the cartridge: only what the interrupt lines set. -/
structure DotFrame (s t : State) : Prop where
  cpu : t.cpu = { s.cpu with irqPending := t.cpu.irqPending, nmiPending := t.cpu.nmiPending, nmiDelay := t.cpu.nmiDelay }
  bus : t.bus = s.bus
  fault : t.fault = s.fault
  extras : t.unofficialExtras = s.unofficialExtras

theorem DotFrame.refl (s : State) : DotFrame s s := ⟨rfl, rfl, rfl, rfl⟩

theorem DotFrame.trans {s t u : State} (h1 : DotFrame s t) (h2 : DotFrame t u) : DotFrame s u :=
  ⟨by rw [h2.cpu, h1.cpu], h2.bus.trans h1.bus, h2.fault.trans h1.fault, h2.extras.trans h1.extras⟩

theorem DotFrame.setPpu (s : State) (u : Ppu) : DotFrame s (s.setPpu u) := ⟨rfl, rfl, rfl, rfl⟩

theorem nmiChange_dotFrame (s : State) : DotFrame s s.nmiChange := by
  unfold State.nmiChange
  simp only []
  split <;> exact ⟨rfl, rfl, rfl, rfl⟩

theorem tick_dotFrame (s : State) : DotFrame s s.tick := by
  unfold State.tick
  repeat' split
  all_goals exact ⟨rfl, rfl, rfl, rfl⟩

/-- The fetch step changes only the PPU (R530 to R534). -/
theorem fetchStep_setPpu (s : State) (cyc : Nat) : ∃ u, s.fetchStep cyc = s.setPpu u := by
  unfold State.fetchStep
  split <;> exact ⟨_, rfl⟩

/-- Rendering a dot changes only the PPU (R520). -/
theorem renderDot_setPpu (s : State) (line cyc : Nat) : ∃ u, s.renderDot line cyc = s.setPpu u := by
  have pixel : ∃ u, (if (visibleLine line && visibleCycle cyc) = true then s.renderPixel line (cyc - 1) else s) =
      s.setPpu u := by
    split <;> exact ⟨_, rfl⟩
  obtain ⟨u, hu⟩ := pixel
  unfold State.renderDot
  simp only [hu]
  split
  · obtain ⟨w, hw⟩ := fetchStep_setPpu ((s.setPpu u).setPpu (s.setPpu u).ppu.shiftTiles) cyc
    exact ⟨_, by rw [hw]; rfl⟩
  · exact ⟨_, rfl⟩

theorem vblankStep_dotFrame (s : State) (line cyc : Nat) : DotFrame s (s.vblankStep line cyc) := by
  have changed (s : State) (u : Ppu) : DotFrame s (s.setPpu u).nmiChange :=
    (DotFrame.setPpu s u).trans (nmiChange_dotFrame _)
  unfold State.vblankStep
  simp only []
  split <;> split
  · exact (changed s _).trans (changed _ _)
  · exact changed s _
  · exact changed s _
  · exact DotFrame.refl s

theorem ppuStep_dotFrame (s : State) : DotFrame s s.ppuStep := by
  unfold State.ppuStep
  simp only []
  refine (tick_dotFrame s).trans (DotFrame.trans ?_ (vblankStep_dotFrame _ _ _))
  split
  · obtain ⟨u, hu⟩ := renderDot_setPpu s.tick s.tick.ppu.scanline s.tick.ppu.cycle
    rw [hu]
    exact DotFrame.setPpu _ u
  · exact DotFrame.refl _

theorem triggerIrq_dotFrame (s : State) : DotFrame s s.triggerIrq := by
  unfold State.triggerIrq
  split <;> exact ⟨rfl, rfl, rfl, rfl⟩

theorem mapperStep_dotFrame (s : State) : DotFrame s s.mapperStep := by
  have clocked (k : Cart) : DotFrame s (s.setCart k) := ⟨rfl, rfl, rfl, rfl⟩
  unfold State.mapperStep
  simp only []
  split
  · split
    · split
      · exact (clocked _).trans (triggerIrq_dotFrame _)
      · exact clocked _
    · exact DotFrame.refl s
  · exact DotFrame.refl s

theorem devices_dotFrame : ∀ (n : Nat) (s : State), DotFrame s (State.devices n s)
  | 0, s => DotFrame.refl s
  | n + 1, s => ((ppuStep_dotFrame s).trans (mapperStep_dotFrame _)).trans (devices_dotFrame n _)

/-! ## Idle steps, stops and snapshots -/

/-- An idle step takes one cycle, and so three dots (R156 step 1, R700). -/
theorem step_idle {s : State} (hf : s.fault = none) (hi : 0 < s.cpu.idle) :
    step s = .next (State.devices 3
      { s with cpu := { s.cpu with idle := s.cpu.idle - 1, cycles := s.cpu.cycles + 1 } }) := by
  rw [step_of_idle hf hi, State.runDevices]
  have hone : s.idleStep.cpu.cycles - s.cpu.cycles = 1 := Nat.add_sub_cancel_left _ 1
  rw [hone]
  rfl

theorem loadState_eq {s snap t : State} (h : s.loadState snap = some t) :
    t = { s with cpu := snap.cpu, bus := snap.bus, ppu := snap.ppu, cart := snap.cart } := by
  unfold State.loadState at h
  split at h
  · exact (Option.some.inj h).symm
  · cases h

theorem sameCartridge_self (s : State) : s.sameCartridge s = true := by
  simp [State.sameCartridge]

/-- Settles O6: the first answer of a step, the idle step, and what a snapshot replaces. -/
theorem stepsThatExecuteNothing : Obligations.StepsThatExecuteNothing := by
  unfold Obligations.StepsThatExecuteNothing
  refine ⟨fun s r hr => ⟨s.raise r, step_of_fault hr, raise_record s r, ?_⟩, fun s hf hi => step_idle hf hi,
    fun s snap t h => loadState_eq h, fun s => ⟨if_pos (sameCartridge_self s), rfl⟩⟩
  rw [raise_stopped, ← hr]

/-- Settles O8: by induction on the stall; each idle step serves one cycle, and its dots leave the CPU's registers and the bus. -/
theorem stallRunsOut : Obligations.StallRunsOut := by
  unfold Obligations.StallRunsOut
  intro n
  induction n with
  | zero => exact fun s hf hi => ⟨s, rfl, hf, hi, rfl, rfl, rfl, rfl, rfl, rfl, rfl, rfl⟩
  | succ n ih =>
    intro s hf hi
    have hstep := step_idle hf (by omega)
    have hd := devices_dotFrame 3 { s with cpu := { s.cpu with idle := s.cpu.idle - 1, cycles := s.cpu.cycles + 1 } }
    generalize State.devices 3 _ = u at hstep hd
    obtain ⟨hcpu, hbus, hfault, -⟩ := hd
    obtain ⟨t, hrun, htf, hti, htc, hpc, ha, hx, hy, hs, hp, htb⟩ := ih u (hfault.trans hf) (by rw [hcpu]; simp [hi])
    rw [hcpu] at htc hpc ha hx hy hs hp
    refine ⟨t, (run_succ hstep n).trans hrun, htf, hti, ?_, hpc, ha, hx, hy, hs, hp, htb.trans hbus⟩
    simp only at htc
    omega

/-! ## Reset and the interrupt lines -/

/-- Settles O9: the arrays of the state after reset are empty, its counters 0. -/
theorem resetMeetsInvariant : Obligations.ResetMeetsInvariant := by
  unfold Obligations.ResetMeetsInvariant
  decide

/-- Settles O40: each line is one case distinction. -/
theorem interruptLines : Obligations.InterruptLines := by
  unfold Obligations.InterruptLines
  intro s
  refine ⟨fun h => if_pos h, fun h => ?_, rfl, ?_⟩
  · rw [State.triggerIrq, h]
    rfl
  · simp [State.nmiChange, State.setPpu]

end Sys2Proof.Machine
end

section
/-! The stack, the status byte and the interrupt entry (spec/41_transfer_stack.md, spec/10_state.md R27, R28, spec/60_exceptions.md
R412, R413): what each does, as one equation, and with these the results of PHA, PHP, PLA, PLP, BRK and RTI, what a return
restores, and the order of the poll. -/

namespace Sys2Proof.Machine

open Sys2Proof

/-! ## The stack -/

/-- A push, by the index of its slot in internal RAM (R220). -/
theorem push_slot (v : Byte) (s : State) :
    push v s = .ok ((s.setRam (s.bus.ram.write (0x100 + s.cpu.s.toNat) v)).setS (s.cpu.s - 1)) := by
  rw [push_eq, ramIndex_stackAddr]

/-- A pull, by the index of its slot in internal RAM (R220). -/
theorem pull_slot (s : State) :
    pull s = .ok (s.bus.ram.read (0x100 + (s.cpu.s.toNat + 1) % 256), s.setS (s.cpu.s + 1)) := by
  have hslot : (s.cpu.s + 1).toNat = (s.cpu.s.toNat + 1) % 256 := by bv_omega
  rw [pull_eq, ramIndex_stackAddr, hslot]

/-! ## The status byte -/

theorem append_bit_toNat {w : Nat} (x : BitVec w) (b : Bool) : (x ++ bit b).toNat = 2 * x.toNat + b.toNat := by
  have hb : (bit b).toNat = b.toNat := by cases b <;> rfl
  rw [BitVec.toNat_append, hb, Nat.shiftLeft_eq, Nat.mul_comm, ← Nat.two_pow_add_eq_or_of_lt (b.toNat_lt)]

/-- The flags stand in the status byte at their weights (R27). -/
theorem statusByte_toNat (p : Flags) (b4 : Bool) :
    (p.statusByte b4).toNat = 128 * p.n.toNat + 64 * p.v.toNat + 32 + 16 * b4.toNat + 8 * p.d.toNat + 4 * p.i.toNat +
      2 * p.z.toNat + p.c.toNat := by
  have hn : (bit p.n).toNat = p.n.toNat := by cases p.n <;> rfl
  have hbyte : (p.statusByte b4).toNat =
      2 * (2 * (2 * (2 * (2 * (2 * (2 * p.n.toNat + p.v.toNat) + 1) + b4.toNat) + p.d.toNat) + p.i.toNat) + p.z.toNat) +
        p.c.toNat := by
    rw [← hn]
    unfold Flags.statusByte
    simp only [append_bit_toNat]
    rfl
  omega

theorem append_bit_getLsbD_zero {w : Nat} (x : BitVec w) (b : Bool) : (x ++ bit b).getLsbD 0 = b := by
  rw [BitVec.getLsbD_append]
  cases b <;> rfl

theorem append_bit_getLsbD_succ {w : Nat} (x : BitVec w) (b : Bool) (k : Nat) :
    (x ++ bit b).getLsbD (k + 1) = x.getLsbD k := by
  rw [BitVec.getLsbD_append, if_neg (by omega), Nat.add_sub_cancel]

/-- Pulling the flags that were pushed gives them back; bits 4 and 5 and `P.B` have no part in it (R28). -/
theorem setStatus_statusByte (p : Flags) (b4 : Bool) : p.setStatus (p.statusByte b4) = p := by
  have hn : (bit p.n).getLsbD 0 = p.n := by cases p.n <;> rfl
  unfold Flags.setStatus Flags.statusByte
  simp only [append_bit_getLsbD_zero, append_bit_getLsbD_succ, hn]

/-- Settles O15: `push_slot` and `pull_slot`, once for a byte and twice for a word, and the layout of the status byte. -/
theorem stackAndStatusByte : Obligations.StackAndStatusByte := by
  unfold Obligations.StackAndStatusByte
  refine ⟨fun s v w => ⟨push_slot v s, pull_slot s, pushWord_eq w s, _, pullWord_eq s, wordOf_toNat _ _⟩,
    fun p b4 v => ⟨statusByte_toNat p b4, rfl, setStatus_statusByte p b4⟩⟩

/-- Settles O16: one push or one pull in the advanced state. -/
theorem pushPullResults : Obligations.PushPullResults := by
  unfold Obligations.PushPullResults
  intro s next pushed m
  refine ⟨⟨rfl, ?_⟩, ⟨rfl, ?_⟩, ⟨rfl, ?_⟩, ⟨rfl, ?_⟩⟩
  · rw [exec_of_mnemonic (m := .pha) s rfl (by decide), advanced_of_encodingOf s rfl]
    simp only [handlerOf, pha, push_slot]
    rfl
  · rw [exec_of_mnemonic (m := .php) s rfl (by decide), advanced_of_encodingOf s rfl]
    simp only [handlerOf, php, push_slot]
    rfl
  · rw [exec_of_mnemonic (m := .pla) s rfl (by decide), advanced_of_encodingOf s rfl]
    simp only [handlerOf, pla, pull_slot, ok_bind]
    rfl
  · rw [exec_of_mnemonic (m := .plp) s rfl (by decide), advanced_of_encodingOf s rfl]
    simp only [handlerOf, plp, pull_slot, ok_bind]
    rfl

/-! ## Interrupt entry -/

/-- A read at `0x8000` and up gives the byte of PRG-ROM in the bank in place, and changes nothing (R603). -/
theorem memRead_prgRom {a : Word} (s : State) (h : 0x8000 ≤ a) :
    memRead a s = .ok (s.cart.image.prgRom.read (s.cart.prgOffset a), s) := by
  have h2 : ¬ a < 0x2000 := by bv_omega
  have h4 : ¬ a < 0x4020 := by bv_omega
  have h6 : ¬ a < 0x6000 := by bv_omega
  have h8 : ¬ a < 0x8000 := by bv_omega
  apply memRead_peek
  rw [peek, if_neg h2, if_neg h4, Cart.cpuRead, if_neg h6, if_neg h8]

/-- RAM after an interrupt entry from `s`: the program counter and the status byte in the three slots below `S` (R413). -/
def State.entryRam (s : State) (b4 : Bool) : Memory :=
  ((s.bus.ram.write (0x100 + s.cpu.s.toNat) (hiByte s.cpu.pc)).write
    (0x100 + (s.cpu.s.toNat + 255) % 256) (loByte s.cpu.pc)).write
    (0x100 + (s.cpu.s.toNat + 254) % 256) (s.cpu.p.statusByte b4)

/-- The interrupt entry through a vector in PRG-ROM, from every state (R413, R284). -/
theorem enterInterrupt_eq (b4 : Bool) {vector : Word} (s : State) (hlow : 0x8000 ≤ vector) (hhigh : 0x8000 ≤ vector + 1) :
    enterInterrupt b4 vector s = .ok
      { s with
        bus := { s.bus with ram := s.entryRam b4 }
        cpu := { s.cpu with
          s := s.cpu.s - 3, p := { s.cpu.p with i := true },
          pc := wordOf (s.cart.image.prgRom.read (s.cart.prgOffset (vector + 1)))
            (s.cart.image.prgRom.read (s.cart.prgOffset vector)) } } := by
  have hslot : (s.cpu.s - 2).toNat = (s.cpu.s.toNat + 254) % 256 := by bv_omega
  have htop : s.cpu.s - 2 - 1 = s.cpu.s - 3 := by bv_omega
  simp only [enterInterrupt, pushWord_eq, ok_bind, push_slot, memRead16, memRead_prgRom _ hlow, memRead_prgRom _ hhigh,
    State.setS_s, hslot, htop]
  rfl

theorem service_eq {vector : Word} (s : State) (hlow : 0x8000 ≤ vector) (hhigh : 0x8000 ≤ vector + 1) :
    service vector s = .ok
      { s with
        bus := { s.bus with ram := s.entryRam false }
        cpu := { s.cpu with
          s := s.cpu.s - 3, p := { s.cpu.p with i := true }, cycles := s.cpu.cycles + 7,
          pc := wordOf (s.cart.image.prgRom.read (s.cart.prgOffset (vector + 1)))
            (s.cart.image.prgRom.read (s.cart.prgOffset vector)) } } := by
  rw [service, enterInterrupt_eq false s hlow hhigh, ok_bind]
  rfl

/-- Settles O41: `service_eq` at the two vectors. -/
theorem serviceEntry : Obligations.ServiceEntry := by
  unfold Obligations.ServiceEntry
  rintro s vector (rfl | rfl)
  · exact service_eq s (by decide) (by decide)
  · exact service_eq s (by decide) (by decide)

/-- Settles O23: BRK is the interrupt entry from the advanced state; RTI is three pulls. -/
theorem interruptInstructionResults : Obligations.InterruptInstructionResults := by
  unfold Obligations.InterruptInstructionResults
  intro s after sp rom stack
  refine ⟨⟨rfl, ?_⟩, ⟨rfl, ?_⟩⟩
  · rw [exec_of_mnemonic (m := .brk) s rfl (by decide), advanced_of_encodingOf s rfl]
    simp only [handlerOf, brk, irqVector, enterInterrupt_eq true _ (by decide : (0x8000 : Word) ≤ 0xFFFE) (by decide)]
    rfl
  · rw [exec_of_mnemonic (m := .rti) s rfl (by decide), advanced_of_encodingOf s rfl]
    have hsecond : ((s.cpu.s + 1).toNat + 1) % 256 = (s.cpu.s.toNat + 2) % 256 := by bv_omega
    have hthird : ((s.cpu.s + 1).toNat + 2) % 256 = (s.cpu.s.toNat + 3) % 256 := by bv_omega
    have htop : s.cpu.s + 1 + 2 = s.cpu.s + 3 := by bv_omega
    simp only [handlerOf, rti, returnFromInterrupt, pull_slot, ok_bind, pullWord_eq, State.setP_s, State.setS_s, State.setP_bus,
      State.setS_bus, hsecond, hthird, htop]
    rfl

/-! ## Calls and returns -/

/-- The slots of an interrupt entry hold what it pushed, where RAM is in canonical form. -/
theorem read_entryRam {s : State} (b4 : Bool) (h : s.bus.ram.wf 2048 = true) :
    (s.entryRam b4).read (0x100 + s.cpu.s.toNat) = hiByte s.cpu.pc ∧
    (s.entryRam b4).read (0x100 + (s.cpu.s.toNat + 255) % 256) = loByte s.cpu.pc ∧
    (s.entryRam b4).read (0x100 + (s.cpu.s.toNat + 254) % 256) = s.cpu.p.statusByte b4 := by
  have hs := s.cpu.s.isLt
  have h1 := Memory.wf_write (hiByte s.cpu.pc) h (by omega : 0x100 + s.cpu.s.toNat < 2048)
  have h2 := Memory.wf_write (loByte s.cpu.pc) h1 (by omega : 0x100 + (s.cpu.s.toNat + 255) % 256 < 2048)
  unfold State.entryRam
  simp only [Memory.read_write _ h2, Memory.read_write _ h1, Memory.read_write _ h, if_true]
  refine ⟨?_, ?_, trivial⟩
  · rw [if_neg (by omega), if_neg (by omega)]
  · rw [if_neg (by omega)]

/-- Settles O24: the return reads the slots that the call wrote, which are distinct and lie in RAM. -/
theorem callsReturn : Obligations.CallsReturn := by
  unfold Obligations.CallsReturn
  intro s a hinv
  have hram := hinv.2.1.1
  have hs := s.cpu.s.isLt
  refine ⟨?_, ?_⟩
  · obtain ⟨-, -, ⟨-, hjsr⟩, -⟩ := jumpResults s a
    have hlow : ((s.cpu.s - 2).toNat + 1) % 256 = (s.cpu.s.toNat + 255) % 256 := by bv_omega
    have hhigh : ((s.cpu.s - 2).toNat + 2) % 256 = s.cpu.s.toNat := by bv_omega
    have hfirst := Memory.wf_write (hiByte (s.cpu.pc + 2)) hram (by omega : 0x100 + s.cpu.s.toNat < 2048)
    refine ⟨_, _, hjsr, (jumpResults _ a).2.2.2.2, rfl, ?_, ?_, rfl, rfl⟩
    · simp only [State.setS_s, State.setS_bus, State.setRam_bus, hlow, hhigh, Memory.read_write _ hfirst,
        Memory.read_write _ hram, if_true]
      rw [if_neg (by omega), wordOf_hiByte_loByte]
      bv_omega
    · simp only [State.setS_s]
      bv_omega
  · obtain ⟨⟨-, hbrk⟩, -⟩ := interruptInstructionResults s
    have hstatus : ((s.cpu.s - 3).toNat + 1) % 256 = (s.cpu.s.toNat + 254) % 256 := by bv_omega
    have hlow : ((s.cpu.s - 3).toNat + 2) % 256 = (s.cpu.s.toNat + 255) % 256 := by bv_omega
    have hhigh : ((s.cpu.s - 3).toNat + 3) % 256 = s.cpu.s.toNat := by bv_omega
    obtain ⟨h3, h2, h1⟩ := read_entryRam (s := s.setPc (s.cpu.pc + 2)) true hram
    refine ⟨_, _, hbrk, (interruptInstructionResults _).2.2, rfl, ?_, ?_, ?_, rfl⟩
    · simp only [hlow, hhigh]
      exact (congr (congrArg wordOf h3) h2).trans (wordOf_hiByte_loByte _)
    · simp only []
      bv_omega
    · simp only [hstatus]
      exact (congrArg (Flags.setStatus _) h1).trans (setStatus_statusByte s.cpu.p true)

/-! ## The poll -/

theorem pollIrq_unserviced {s : State} (h : s.cpu.irqPending = false ∨ s.cpu.p.i = true) :
    pollIrq s = .ok { s with cpu := { s.cpu with irqPending := false } } := by
  have hcond : (s.cpu.irqPending && !s.cpu.p.i) = false := by
    rcases h with h | h <;> simp [h]
  rw [pollIrq, hcond]
  rfl

theorem pollIrq_serviced {s t : State} (hp : s.cpu.irqPending = true) (hi : s.cpu.p.i = false)
    (ht : service irqVector s = .ok t) : pollIrq s = .ok { t with cpu := { t.cpu with irqPending := false } } := by
  have hcond : (s.cpu.irqPending && !s.cpu.p.i) = true := by simp [hp, hi]
  rw [pollIrq, hcond, if_pos rfl, ht]
  rfl

theorem pollNmi_none {s : State} (h : s.cpu.nmiPending = false) : pollNmi s = .ok s := by
  rw [pollNmi, h]
  rfl

theorem pollNmi_delayed {s : State} (h : s.cpu.nmiPending = true) (hd : 0 < s.cpu.nmiDelay) :
    pollNmi s = .ok { s with cpu := { s.cpu with nmiDelay := s.cpu.nmiDelay - 1 } } := by
  rw [pollNmi, if_pos h, if_pos hd]

theorem pollNmi_serviced {s t : State} (h : s.cpu.nmiPending = true) (hd : s.cpu.nmiDelay = 0)
    (ht : service nmiVector s = .ok t) : pollNmi s = .ok { t with cpu := { t.cpu with nmiPending := false } } := by
  rw [pollNmi, if_pos h, if_neg (by omega), ht]
  rfl

theorem interruptPoll_of_irq {s t : State} (h : pollIrq s = .ok t) : interruptPoll s = pollNmi t := by
  rw [interruptPoll, h, ok_bind]

/-- Service through the NMI vector completes (R403). -/
theorem service_nmi_ok (s : State) : ∃ t, service nmiVector s = .ok t := ⟨_, service_eq s (by decide) (by decide)⟩

/-- Service through the IRQ vector completes (R403). -/
theorem service_irq_ok (s : State) : ∃ t, service irqVector s = .ok t := ⟨_, service_eq s (by decide) (by decide)⟩

/-- Settles O42: each half of the poll is one case distinction, and neither service can fault. -/
theorem pollOrder : Obligations.PollOrder := by
  unfold Obligations.PollOrder
  intro s clearIrq clearNmi
  refine ⟨fun h hn => ?_, fun h hn hd => ?_, fun h hn hd => ?_, fun hp hi => ?_⟩
  · rw [interruptPoll_of_irq (pollIrq_unserviced h)]
    exact pollNmi_none hn
  · rw [interruptPoll_of_irq (pollIrq_unserviced h)]
    exact pollNmi_delayed hn hd
  · obtain ⟨t, ht⟩ := service_nmi_ok (clearIrq s)
    refine ⟨t, ht, ?_⟩
    rw [interruptPoll_of_irq (pollIrq_unserviced h)]
    exact pollNmi_serviced hn hd ht
  · obtain ⟨t, ht⟩ := service_irq_ok s
    obtain ⟨hpending, hdelay, -⟩ := service_pending ht
    rw [interruptPoll_of_irq (pollIrq_serviced hp hi ht), ← hpending, ← hdelay]
    refine ⟨t, ht, fun hn => pollNmi_none hn, fun hn hd => pollNmi_delayed hn hd, fun hn hd => ?_⟩
    obtain ⟨u, hu⟩ := service_nmi_ok (clearIrq t)
    exact ⟨u, hu, pollNmi_serviced hn hd hu⟩

end Sys2Proof.Machine
end

section
/-! Addressing modes, arithmetic and the remaining unofficial instructions (spec/30_encoding.md section 2, spec/42_alu.md,
spec/45_flags_nop.md, spec/46_unofficial.md): effective addresses as numbers, the sum of ADC and SBC, the high-byte stores. -/

namespace Sys2Proof.Machine

open Sys2Proof

/-! ## Effective addresses as numbers -/

theorem zext16_toNat (b : Byte) : (zext16 b).toNat = b.toNat := by
  unfold zext16
  bv_omega

theorem indexed_toNat (base : Word) (i : Byte) : (Resolved.indexed base i).ea.toNat = (base.toNat + i.toNat) % 65536 := by
  show (base + zext16 i).toNat = _
  rw [BitVec.toNat_add, zext16_toNat]

/-- A page is crossed where the page numbers differ (R150, R151, R154). -/
theorem bne_hiByte (a b : Word) : (hiByte a != hiByte b) = decide (a.toNat / 256 ≠ b.toNat / 256) := by
  rw [Bool.eq_iff_iff, bne_iff_ne, decide_eq_true_eq, ne_eq, hiByte_eq_iff]

/-- The page-cross flag of every mode but `ind`: an address that is not indexed is its own base. -/
theorem target_crossed (s : State) (o : Operand) :
    (s.target o).crossed = decide ((s.target o).ea.toNat / 256 ≠ (s.target o).base.toNat / 256) := by
  have plain (a : Word) : (Resolved.plain a).crossed =
      decide ((Resolved.plain a).ea.toNat / 256 ≠ (Resolved.plain a).base.toNat / 256) := by
    simp [Resolved.plain]
  have indexed (a : Word) (i : Byte) : (Resolved.indexed a i).crossed =
      decide ((Resolved.indexed a i).ea.toNat / 256 ≠ (Resolved.indexed a i).base.toNat / 256) := bne_hiByte _ _
  cases o <;> first | exact plain _ | exact indexed _ _

/-- A relative target, as an integer: the displacement is signed and the sum wraps (R148). -/
theorem rel_toNat (pc : Word) (d : Byte) :
    ((pc + 2 + sext16 d).toNat : Int) = ((pc.toNat : Int) + 2 + d.toInt) % 65536 := by
  have hd : (sext16 d).toInt = d.toInt := BitVec.toInt_signExtend_of_le (by omega)
  rw [← hd, BitVec.toInt_eq_toNat_cond, BitVec.toNat_add, BitVec.toNat_add]
  have h2 : (2 : Word).toNat = 2 := rfl
  split <;> omega

/-- The zero-page pointer, by its bytes in RAM: the second one wraps within page 0 (R153, R154). -/
theorem zpPointer_toNat (s : State) (z : Byte) :
    (s.zpPointer z).toNat =
      256 * (s.bus.ram.read ((z.toNat + 1) % 256)).toNat + (s.bus.ram.read (z.toNat % 256)).toNat := by
  have hz : z.toNat = z.toNat % 256 := by omega
  have hlow : ramIndex (zext16 z) = z.toNat % 256 := by
    rw [ramIndex, zext16_toNat]
    omega
  have hhigh : ramIndex (zext16 (z + 1)) = (z.toNat + 1) % 256 := by
    rw [ramIndex, zext16_toNat, BitVec.toNat_add, show (1 : Byte).toNat = 1 from rfl]
    omega
  rw [State.zpPointer, wordOf_toNat, hlow, hhigh]

/-- Settles O11: each mode resolves to `State.target` without a side effect, and that is the number stated. -/
theorem effectiveAddress : Obligations.EffectiveAddress := by
  unfold Obligations.EffectiveAddress
  intro s z a page0 izyBase
  have hizy : (s.zpPointer z).toNat = izyBase := zpPointer_toNat s z
  refine ⟨⟨_, resolve_target s nofun, BitVec.toNat_add _ _, rfl⟩, ⟨_, resolve_target s nofun, zext16_toNat z, rfl⟩,
    ⟨_, resolve_target s nofun, (zext16_toNat _).trans (BitVec.toNat_add _ _), rfl⟩,
    ⟨_, resolve_target s nofun, (zext16_toNat _).trans (BitVec.toNat_add _ _), rfl⟩,
    ⟨_, resolve_target s nofun, rel_toNat _ z, rfl⟩, ⟨_, resolve_target s nofun, rfl, rfl⟩,
    ⟨_, resolve_target s nofun, rfl, indexed_toNat a _, target_crossed s _⟩,
    ⟨_, resolve_target s nofun, rfl, indexed_toNat a _, target_crossed s _⟩,
    ⟨_, resolve_target s nofun, rfl, ?_⟩,
    ⟨_, resolve_target s nofun, hizy, (indexed_toNat _ _).trans (by rw [hizy]), ?_⟩,
    ⟨_, resolve_target s nofun, rfl⟩, ⟨_, resolve_target s nofun, rfl⟩⟩
  · have hsum : (z + s.cpu.x).toNat = (z.toNat + s.cpu.x.toNat) % 256 := BitVec.toNat_add _ _
    show (s.zpPointer (z + s.cpu.x)).toNat = _
    rw [zpPointer_toNat, hsum, Nat.mod_add_mod, Nat.mod_mod]
  · rw [target_crossed, ← hizy]
    rfl

/-! ## ADC and SBC -/

/-- A bit that is masked out alone. -/
theorem and_0x80_ne_zero (x : Byte) : (x &&& 0x80 != 0) = x.getLsbD 7 := by
  rw [show (0x80 : Byte) = BitVec.twoPow 8 7 by decide, BitVec.and_twoPow]
  cases x.getLsbD 7 <;> rfl

theorem xor_eq_bne (a b : Bool) : (a ^^ b) = (a != b) := by
  cases a <;> cases b <;> rfl

/-- Signed overflow (R251): the exact signed sum of A, operand and carry lies outside -128 to 127. -/
theorem addOverflow_eq (a m : Byte) (c : Bool) :
    addOverflow a m (BitVec.ofNat 8 (addSum a m c)) =
      decide (a.toInt + m.toInt + c.toNat < -128 ∨ 127 < a.toInt + m.toInt + c.toNat) := by
  have hc := c.toNat_lt
  have ha := a.isLt
  have hm := m.isLt
  rw [Bool.eq_iff_iff, addOverflow, and_0x80_ne_zero, BitVec.getLsbD_and, BitVec.getLsbD_xor, BitVec.getLsbD_xor,
    getLsbD_seven, getLsbD_seven, getLsbD_seven, BitVec.toNat_ofNat, BitVec.toInt_eq_toNat_cond,
    BitVec.toInt_eq_toNat_cond, addSum]
  simp only [Bool.and_eq_true, xor_eq_true_iff, decide_eq_decide, decide_eq_true_eq]
  split <;> split <;> omega

/-- The end of ADC and SBC, as the statements write it (R251). -/
theorem addWithCarry_eq_flags {s t : State} (m : Byte) (ha : t.cpu.a = s.cpu.a) (hc : t.cpu.p.c = s.cpu.p.c) :
    let sum : Nat := s.cpu.a.toNat + m.toNat + s.cpu.p.c.toNat
    let signed : Int := s.cpu.a.toInt + m.toInt + s.cpu.p.c.toNat
    let r := BitVec.ofNat 8 sum
    t.addWithCarry m = (t.setA r).flags (fun p =>
      { p with c := decide (255 < sum), v := decide (signed < -128 ∨ 127 < signed), z := decide (r = 0),
               n := r.getLsbD 7 }) := by
  intro sum signed r
  have hv := addOverflow_eq s.cpu.a m s.cpu.p.c
  unfold State.addWithCarry
  simp only [ha, hc, hv]
  rfl

/-- `exec_readThen` for an instruction that may be of class extra. -/
theorem exec_readThen_of_wellFormed {i : Instr} {s : State} {f : Byte → State → State}
    (hw : i.wellFormed s.unofficialExtras = true) (hj : i.mnemonic ≠ .jmp) (hf : handlerOf i.mnemonic = readThen f)
    (hr : s.operandReadable i.operand = true) : ∃ b t, s.Reads i b t ∧ exec i s = .next (f b t) := by
  obtain ⟨b, t, ht⟩ := reads_ok hr
  refine ⟨b, t, ht, ?_⟩
  rw [State.Reads] at ht
  rw [exec_run hw (mode_ne_ind hj), hf, readThen, ht, ok_bind]
  rfl

/-- Settles O18: both are `readThen` of the addition with carry, SBC of the complement. -/
theorem arithmeticResults : Obligations.ArithmeticResults := by
  unfold Obligations.ArithmeticResults
  intro i s result
  have adds {f : Byte → Byte} (hw : i.wellFormed s.unofficialExtras = true) (hj : i.mnemonic ≠ .jmp)
      (hf : handlerOf i.mnemonic = readThen fun b t => t.addWithCarry (f b)) : result f := by
    intro hr
    obtain ⟨b, t, ht, hexec⟩ := exec_readThen_of_wellFormed hw hj hf hr
    have ha : t.cpu.a = (s.advanced i).cpu.a := congrArg Cpu.a (reads_frame ht).cpu
    exact ⟨b, t, ht, hexec.trans (congrArg _ (addWithCarry_eq_flags (f b) ha (reads_carry ht)))⟩
  refine ⟨fun h => ⟨?_, ?_⟩, fun h => ⟨?_, fun hw => ?_⟩⟩
  · exact encodingOf_of_rows (by decide) h
  · exact adds (wellFormed_of _ (by simp [h]) (by simp [h]) (by simp [h])) (by simp [h]) (by rw [h]; rfl)
  · exact encodingOf_of_rows (by decide) h
  · exact adds hw (by simp [h]) (by rw [h]; rfl)

/-! ## Flags and NOP -/

/-- Settles O26: a flag instruction is a total change of the flags, a NOP none. -/
theorem flagAndNopResults : Obligations.FlagAndNopResults := by
  unfold Obligations.FlagAndNopResults
  intro s i sets
  have flag (j : Instr) (m : Mnemonic) (op : Byte) (f : Flags → Flags) (he : encodingOf j = ⟨op, .imp, 1, 2, false⟩)
      (h : j.mnemonic = m) (hm : m ∉ [.sbc, .nop, .illegal, .jmp]) (hf : handlerOf m = fun _ _ s => .ok (s.flags f)) :
      sets j op f := by
    refine ⟨he, ?_⟩
    rw [exec_update s h hm hf, advanced_of_encodingOf s he]
    rfl
  refine ⟨?_, ?_, ?_, ?_, ?_, ?_, ?_, ⟨rfl, ?_⟩, fun h hc => ⟨?_, fun hx => ?_⟩⟩
  · exact flag .clc .clc 0x18 (fun p => { p with c := false }) rfl rfl (by decide) rfl
  · exact flag .sec .sec 0x38 (fun p => { p with c := true }) rfl rfl (by decide) rfl
  · exact flag .cli .cli 0x58 (fun p => { p with i := false }) rfl rfl (by decide) rfl
  · exact flag .sei .sei 0x78 (fun p => { p with i := true }) rfl rfl (by decide) rfl
  · exact flag .clv .clv 0xB8 (fun p => { p with v := false }) rfl rfl (by decide) rfl
  · exact flag .cld .cld 0xD8 (fun p => { p with d := false }) rfl rfl (by decide) rfl
  · exact flag .sed .sed 0xF8 (fun p => { p with d := true }) rfl rfl (by decide) rfl
  · rw [exec_run (i := .nop) rfl nofun]
    rfl
  · rw [← encodingOf_opcodeRow]
    rw [← mnemonic_opcodeRow] at h
    rw [← cls_opcodeRow] at hc
    revert h hc
    generalize i.opcode = op
    revert op
    decide
  · have hw : i.wellFormed s.unofficialExtras = true := by rw [Instr.wellFormed, hc, hx]; rfl
    rw [exec_run hw (mode_ne_ind (by simp [h])), h]
    rfl

/-! ## ANC, ALR, ARR, SBX, ANE and LAS -/

/-- Settles O28: the immediate forms are total changes of the advanced state, LAS is `readThen` of one that takes `S`. -/
theorem immediateAndLasResults : Obligations.ImmediateAndLasResults := by
  unfold Obligations.ImmediateAndLasResults
  intro s m w next zn both anc rotated ax
  have immediate {i : Instr} {mn : Mnemonic} {op : Byte} {f : Byte → State → State} (h : i.mnemonic = mn)
      (hm : mn ∉ [.sbc, .nop, .illegal, .jmp]) (hf : handlerOf mn = readThen f) (ho : i.operand = .imm m)
      (he : encodingOf i = ⟨op, .imm, 2, 2, false⟩) : exec i s = .next (f m next) := by
    rw [exec_of_mnemonic s h hm, hf, ho, advanced_of_encodingOf s he]
    rfl
  refine ⟨⟨rfl, ?_⟩, ⟨rfl, ?_⟩, ⟨rfl, ?_⟩, ⟨rfl, ?_⟩, ⟨rfl, ?_⟩, ⟨rfl, ?_⟩, ⟨rfl, fun hr => ?_⟩⟩
  · exact immediate (i := .ancImm0B m) (mn := .anc)
      (f := fun m t => (t.logic (t.cpu.a &&& m)).setC ((t.cpu.a &&& m).getLsbD 7))
      rfl (by decide) rfl rfl (by rfl)
  · exact immediate (i := .ancImm2B m) (mn := .anc)
      (f := fun m t => (t.logic (t.cpu.a &&& m)).setC ((t.cpu.a &&& m).getLsbD 7))
      rfl (by decide) rfl rfl (by rfl)
  · exact immediate (i := .alrImm m) (mn := .alr)
      (f := fun m t => (t.setC ((t.cpu.a &&& m).getLsbD 0)).logic ((t.cpu.a &&& m) >>> 1))
      rfl (by decide) rfl rfl (by rfl)
  · refine (immediate (i := .arrImm m) (mn := .arr) (f := fun m t => let r := rotateRight t.cpu.p.c (t.cpu.a &&& m)
      (((t.setA r.1).setZN r.1).setC (r.1.getLsbD 6)).flags fun p => { p with v := r.1.getLsbD 6 ^^ r.1.getLsbD 5 })
      rfl (by decide) rfl rfl (by rfl)).trans ?_
    have hrot : (rotateRight s.cpu.p.c both).1 = rotated := congrArg Prod.fst (rotateRight_eq s.cpu.p.c both)
    rw [← hrot]
    simp only [xor_eq_bne]
    rfl
  · exact immediate (i := .sbxImm m) (mn := .sbx)
      (f := fun m t => let ax := t.cpu.a &&& t.cpu.x; ((t.setX (ax - m)).setZN (ax - m)).setC (decide (m.toNat ≤ ax.toNat)))
      rfl (by decide) rfl rfl (by rfl)
  · exact immediate (i := .aneImm m) (mn := .ane)
      (f := fun m t => t.logic ((t.cpu.a ||| Config.aneMagic) &&& t.cpu.x &&& m))
      rfl (by decide) rfl rfl (by rfl)
  · exact exec_readThen_cpu (m := .las) (reg := (·.s))
      (f := fun sp b t => (((t.setA (b &&& sp)).setX (b &&& sp)).setS (b &&& sp)).setZN (b &&& sp)) rfl (by decide) rfl rfl hr

/-! ## SHA, SHX, SHY and TAS -/

/-- The byte that a high-byte store writes, by number (R341). -/
theorem hiByte_add_one (w : Word) : hiByte w + 1 = BitVec.ofNat 8 (w.toNat / 256 + 1) := by
  apply BitVec.eq_of_toNat_eq
  rw [BitVec.toNat_add, hiByte_toNat, BitVec.toNat_ofNat]
  rfl

theorem wordOf_loByte (v : Byte) (w : Word) : wordOf v (loByte w) = BitVec.ofNat 16 (256 * v.toNat + w.toNat % 256) := by
  have hv := v.isLt
  apply BitVec.eq_of_toNat_eq
  rw [wordOf_toNat, loByte, BitVec.extractLsb'_toNat, BitVec.toNat_ofNat, Nat.shiftRight_zero]
  omega

/-- Settles O29: each is `storeHigh` of its register, which for TAS is the new `S`. -/
theorem highByteStoreResults : Obligations.HighByteStoreResults := by
  unfold Obligations.HighByteStoreResults
  intro i s r value address stores ax
  have storeHigh_eq (reg : Byte) (t : State) :
      storeHigh (s.target i.operand) reg t = memWrite (address reg) (value reg) t := by
    unfold storeHigh
    simp only [hiByte_add_one, wordOf_loByte, target_crossed, decide_eq_true_eq, ite_not]
    rfl
  have store {m : Mnemonic} {reg : State → Byte} {pre : State → State} (h : i.mnemonic = m)
      (hm : m ∉ [.sbc, .nop, .illegal, .jmp]) (hf : handlerOf m = fun _ r s => storeHigh r (reg s) (pre s))
      (hreg : reg (s.advanced i) = reg s)
      (hw : (pre (s.advanced i)).writable (address (reg s)) (value (reg s)) =
        s.writable (address (reg s)) (value (reg s))) : stores (reg s) (pre (s.advanced i)) := by
    intro hs
    rw [← hw] at hs
    obtain ⟨u, hu⟩ := memWrite_ok hs
    refine ⟨u, hu, ?_⟩
    rw [exec_of_mnemonic s h hm, hf]
    simp only [hreg, storeHigh_eq, hu, finish]
  refine ⟨fun h => ⟨?_, ?_⟩, fun h => ⟨?_, ?_⟩, fun h => ⟨?_, ?_⟩, fun h => ⟨?_, ?_⟩⟩
  · exact encodingOf_of_rows (by decide) h
  · exact store (reg := fun s => s.cpu.a &&& s.cpu.x) (pre := id) h (by decide) rfl rfl rfl
  · exact encodingOf_of_rows (P := (· = ⟨0x9E, .aby, 3, 5, false⟩)) (by decide) h
  · exact store (reg := (·.cpu.x)) (pre := id) h (by decide) rfl rfl rfl
  · exact encodingOf_of_rows (P := (· = ⟨0x9C, .abx, 3, 5, false⟩)) (by decide) h
  · exact store (reg := (·.cpu.y)) (pre := id) h (by decide) rfl rfl rfl
  · exact encodingOf_of_rows (P := (· = ⟨0x9B, .aby, 3, 5, false⟩)) (by decide) h
  · exact store (reg := fun s => s.cpu.a &&& s.cpu.x) (pre := fun s => s.setS (s.cpu.a &&& s.cpu.x)) h (by decide) rfl rfl rfl

end Sys2Proof.Machine
end

section
/-! What an instruction can touch (spec/40 to spec/46). `Touches m o s t` says which registers, flags and devices the mnemonic `m`
with operand `o` leaves alone on the way from `s` to `t`. It is reflexive and transitive; there is one rule for each state operation
and one line for each handler. The frame statements and the record of a fault follow from it. -/

namespace Sys2Proof.Machine

open Sys2Proof

/-! ## A fault that is raised is recorded -/

/-- The stopped state of the fault holds its record. -/
def Recorded (f : Fault) : Prop := f.stopped.fault = some f.record

theorem recorded_raise (s : State) (r : FaultRecord) : Recorded (s.raise r) := by
  rw [Recorded, raise_stopped, raise_record]

theorem memRead_recorded {a : Word} {s : State} {f : Fault} (h : memRead a s = .error f) : Recorded f := by
  rw [memRead_error h]
  exact recorded_raise _ _

/-- A bind that fails fails in its first part, or in the second part after the first went on. -/
theorem bind_error {α β : Type} {r : Run α} {k : α → Run β} {f : Fault} (h : r >>= k = .error f) :
    r = .error f ∨ ∃ a, r = .ok a ∧ k a = .error f := by
  cases r with
  | ok a => exact .inr ⟨a, rfl, h⟩
  | error e => exact .inl (by cases h; rfl)

theorem ppuWrite_recorded {s : State} {addr : Nat} {v : Byte} {f : Fault} (h : s.ppuWrite addr v = .error f) :
    Recorded f := by
  unfold State.ppuWrite at h
  simp only [] at h
  split at h
  · split at h
    · cases h
    · cases h
      exact recorded_raise _ _
  · split at h <;> cases h

theorem dmaCopy_recorded (page : Byte) : ∀ (n i : Nat) {s : State} {f : Fault}, dmaCopy page n i s = .error f → Recorded f := by
  intro n
  induction n with
  | zero =>
    intro i s f h
    cases h
  | succ n ih =>
    intro i s f h
    obtain h | ⟨p, -, h⟩ := bind_error h
    · exact memRead_recorded h
    · exact ih _ h

theorem memWrite_recorded {a : Word} {v : Byte} {s : State} {f : Fault} (h : memWrite a v s = .error f) : Recorded f := by
  unfold memWrite at h
  split at h
  · cases h
  split at h
  · unfold State.ppuRegWrite at h
    simp only [] at h
    split at h <;> try cases h
    obtain h | ⟨p, -, h⟩ := bind_error h
    · exact ppuWrite_recorded h
    · cases h
  split at h
  · obtain h | ⟨p, -, h⟩ := bind_error h
    · exact dmaCopy_recorded _ _ _ h
    · cases h
  split at h
  · cases h
  split at h
  · cases h
  split at h
  · cases h
  · cases h
    exact recorded_raise _ _

theorem Post.intro {α : Type} {P : α → Prop} {Q : Fault → Prop} {r : Run α} (hp : ∀ a, r = .ok a → P a)
    (hq : ∀ f, r = .error f → Q f) : Post r P Q := by
  cases r with
  | ok a => exact .ok (hp a rfl)
  | error f => exact .error (hq f rfl)

/-! ## What is stored, and what no instruction touches -/

/-- `s` without the CPU's registers and without what a bus read can change in a device: the storage and the devices' settings. -/
def State.stored (s : State) : State :=
  { s with
    cpu := { s.cpu with a := 0, x := 0, y := 0, s := 0, pc := 0, p := .reset, cycles := 0 }
    bus := { s.bus with ctrlIndex := 0 }
    ppu := { s.ppu with v := 0, w := false, vblank := false, nmiLine := false, readBuffer := 0 }
    draws := 0 }

theorem ppuRegRead_stored (s : State) (r : Nat) : (s.ppuRegRead r).2.stored = s.stored := by
  unfold State.ppuRegRead
  split
  · rw [readPpuStatus_eq]
    rfl
  · rfl
  · unfold State.readPpuData
    simp only []
    split <;> rfl
  · rfl

theorem controllerRead_stored (s : State) : s.controllerRead.2.stored = s.stored := by
  unfold State.controllerRead
  split <;> rfl

/-- A bus read stores nothing (R97). -/
theorem memRead_stored {a : Word} {s t : State} {b : Byte} (h : memRead a s = .ok (b, t)) : t.stored = s.stored := by
  have post : Post (memRead a s) (fun p => p.2.stored = s.stored) (fun _ => True) := by
    unfold memRead
    split
    · exact .ok rfl
    split
    · exact .ok (ppuRegRead_stored s _)
    split
    · exact .ok (controllerRead_stored s)
    split
    · exact .ok rfl
    split
    · exact .ok rfl
    · exact .error trivial
  exact post.of_ok h

/-- What no instruction changes. -/
structure Fixed where
  irqPending : Bool
  b : Bool
  extras : Bool
  image : CartImage
  lastFrame : Option Memory
  framebuffer : Memory
  fault : Option FaultRecord
  scanline : Nat
  cycle : Nat
  parity : Bool

def State.fixed (s : State) : Fixed :=
  { irqPending := s.cpu.irqPending, b := s.cpu.p.b, extras := s.unofficialExtras, image := s.cart.image,
    lastFrame := s.lastFrame, framebuffer := s.ppu.framebuffer, fault := s.fault, scanline := s.ppu.scanline,
    cycle := s.ppu.cycle, parity := s.ppu.f }

theorem WriteFrame.fixed {s t : State} (h : WriteFrame s t) : t.fixed = s.fixed := by
  rw [State.fixed, h.irq, h.p, h.extras, h.image, h.frame, h.framebuffer, h.fault, h.scanline, h.cycle, h.parity]
  rfl

/-- The stall and the NMI line at the CPU, which a store can change. -/
structure Lines where
  idle : Nat
  nmiPending : Bool
  nmiDelay : Nat

def State.lines (s : State) : Lines := ⟨s.cpu.idle, s.cpu.nmiPending, s.cpu.nmiDelay⟩

/-! ## Which mnemonics write what -/

def writersOfA : List Mnemonic := [.lda, .txa, .tya, .pla, .and, .ora, .eor, .adc, .sbc, .lax, .isc, .slo, .rla, .sre, .rra,
  .anc, .alr, .arr, .ane, .las]

def writersOfX : List Mnemonic := [.ldx, .tax, .tsx, .inx, .dex, .lax, .sbx, .las]

def writersOfY : List Mnemonic := [.ldy, .tay, .iny, .dey]

def writersOfS : List Mnemonic := [.txs, .pha, .php, .pla, .plp, .jsr, .rts, .rti, .brk, .las, .tas]

def writersOfD : List Mnemonic := [.cld, .sed, .plp, .rti]

def writersOfI : List Mnemonic := [.cli, .sei, .plp, .rti, .brk]

def writersOfV : List Mnemonic := [.adc, .sbc, .bit, .clv, .plp, .rti, .isc, .rra, .arr]

def writersOfC : List Mnemonic := [.adc, .sbc, .cmp, .cpx, .cpy, .asl, .lsr, .rol, .ror, .clc, .sec, .plp, .rti, .dcp, .isc,
  .slo, .rla, .sre, .rra, .anc, .alr, .arr, .sbx]

def keepersOfZN : List Mnemonic := [.sta, .stx, .sty, .sax, .sha, .shx, .shy, .tas, .txs, .pha, .php, .jmp, .jsr, .rts, .brk,
  .bcc, .bcs, .beq, .bne, .bmi, .bpl, .bvc, .bvs, .clc, .sec, .cli, .sei, .clv, .cld, .sed, .nop]

def branchers : List Mnemonic := [.bcc, .bcs, .beq, .bne, .bmi, .bpl, .bvc, .bvs]

def jumpers : List Mnemonic := [.jmp, .jsr, .rts, .rti, .brk, .bcc, .bcs, .beq, .bne, .bmi, .bpl, .bvc, .bvs]

/-- The mnemonics that store to their address in every form; the shifts do in all forms but `acc`. -/
def storers : List Mnemonic := [.sta, .stx, .sty, .sax, .sha, .shx, .shy, .tas, .inc, .dec, .dcp, .isc, .slo, .rla, .sre, .rra]

def shifters : List Mnemonic := [.asl, .lsr, .rol, .ror]

def pushers : List Mnemonic := [.pha, .php, .jsr, .brk]

/-- The mnemonic stores to the address of the operand. -/
def Stores (m : Mnemonic) (o : Operand) : Prop := m ∈ storers ∨ (m ∈ shifters ∧ operandMode o ≠ .acc)

/-! ## The frame of a mnemonic -/

/-- What the handler of `m` with operand `o` leaves alone on the way from `s` to `t`. -/
structure Touches (m : Mnemonic) (o : Operand) (s t : State) : Prop where
  a : m ∉ writersOfA → operandMode o ≠ .acc → t.cpu.a = s.cpu.a
  x : m ∉ writersOfX → t.cpu.x = s.cpu.x
  y : m ∉ writersOfY → t.cpu.y = s.cpu.y
  sp : m ∉ writersOfS → t.cpu.s = s.cpu.s
  d : m ∉ writersOfD → t.cpu.p.d = s.cpu.p.d
  i : m ∉ writersOfI → t.cpu.p.i = s.cpu.p.i
  v : m ∉ writersOfV → t.cpu.p.v = s.cpu.p.v
  c : m ∉ writersOfC → t.cpu.p.c = s.cpu.p.c
  zn : m ∈ keepersOfZN → t.cpu.p.z = s.cpu.p.z ∧ t.cpu.p.n = s.cpu.p.n
  pc : m ∉ jumpers → t.cpu.pc = s.cpu.pc
  cycles : m ∉ branchers → t.cpu.cycles = s.cpu.cycles
  fixed : t.fixed = s.fixed
  lines : ¬ Stores m o → t.lines = s.lines
  stored : ¬ Stores m o → m ∉ pushers → t.stored = s.stored

variable {m : Mnemonic} {o : Operand} {s : State}

theorem Touches.refl (m : Mnemonic) (o : Operand) (s : State) : Touches m o s s where
  a _ _ := rfl
  x _ := rfl
  y _ := rfl
  sp _ := rfl
  d _ := rfl
  i _ := rfl
  v _ := rfl
  c _ := rfl
  zn _ := ⟨rfl, rfl⟩
  pc _ := rfl
  cycles _ := rfl
  fixed := rfl
  lines _ := rfl
  stored _ _ := rfl

theorem Touches.trans {t u : State} (h1 : Touches m o s t) (h2 : Touches m o t u) : Touches m o s u where
  a h h' := (h2.a h h').trans (h1.a h h')
  x h := (h2.x h).trans (h1.x h)
  y h := (h2.y h).trans (h1.y h)
  sp h := (h2.sp h).trans (h1.sp h)
  d h := (h2.d h).trans (h1.d h)
  i h := (h2.i h).trans (h1.i h)
  v h := (h2.v h).trans (h1.v h)
  c h := (h2.c h).trans (h1.c h)
  zn h := ⟨(h2.zn h).1.trans (h1.zn h).1, (h2.zn h).2.trans (h1.zn h).2⟩
  pc h := (h2.pc h).trans (h1.pc h)
  cycles h := (h2.cycles h).trans (h1.cycles h)
  fixed := h2.fixed.trans h1.fixed
  lines h := (h2.lines h).trans (h1.lines h)
  stored h h' := (h2.stored h h').trans (h1.stored h h')

/-! ## The rules: registers -/

theorem Touches.setA (v : Byte) (h : m ∈ writersOfA ∨ operandMode o = .acc) : Touches m o s (s.setA v) :=
  { Touches.refl m o s with a := fun hm ho => absurd h (not_or.mpr ⟨hm, ho⟩) }

theorem Touches.setX (v : Byte) (h : m ∈ writersOfX) : Touches m o s (s.setX v) :=
  { Touches.refl m o s with x := fun hm => absurd h hm }

theorem Touches.setY (v : Byte) (h : m ∈ writersOfY) : Touches m o s (s.setY v) :=
  { Touches.refl m o s with y := fun hm => absurd h hm }

theorem Touches.setS (v : Byte) (h : m ∈ writersOfS) : Touches m o s (s.setS v) :=
  { Touches.refl m o s with sp := fun hm => absurd h hm }

theorem Touches.setPc (w : Word) (h : m ∈ jumpers) : Touches m o s (s.setPc w) :=
  { Touches.refl m o s with pc := fun hm => absurd h hm }

theorem Touches.charge (n : Nat) (h : m ∈ branchers) : Touches m o s (s.charge n) :=
  { Touches.refl m o s with cycles := fun hm => absurd h hm }

theorem Touches.setZN (v : Byte) (h : m ∉ keepersOfZN) : Touches m o s (s.setZN v) :=
  { Touches.refl m o s with zn := fun hm => absurd hm h }

theorem Touches.setC (c : Bool) (h : m ∈ writersOfC) : Touches m o s (s.setC c) :=
  { Touches.refl m o s with c := fun hm => absurd h hm }

theorem Touches.setV (v : Bool) (h : m ∈ writersOfV) : Touches m o s (s.setP { s.cpu.p with v := v }) :=
  { Touches.refl m o s with v := fun hm => absurd h hm }

theorem Touches.setCV (c v : Bool) (hc : m ∈ writersOfC) (hv : m ∈ writersOfV) :
    Touches m o s (s.setP { s.cpu.p with c := c, v := v }) :=
  (setC c hc).trans (setV v hv)

theorem Touches.setI (i : Bool) (h : m ∈ writersOfI) : Touches m o s (s.setP { s.cpu.p with i := i }) :=
  { Touches.refl m o s with i := fun hm => absurd h hm }

theorem Touches.setD (d : Bool) (h : m ∈ writersOfD) : Touches m o s (s.setP { s.cpu.p with d := d }) :=
  { Touches.refl m o s with d := fun hm => absurd h hm }

/-- PLP and RTI can set every flag but `B` (R28). -/
theorem Touches.setStatus (v : Byte) (h : m ∈ [.plp, .rti]) : Touches m o s (s.setP (s.cpu.p.setStatus v)) := by
  have hd : m ∈ writersOfD ∧ m ∈ writersOfI ∧ m ∈ writersOfV ∧ m ∈ writersOfC ∧ m ∉ keepersOfZN := by
    revert h
    cases m <;> decide
  obtain ⟨hd, hi, hv, hc, hzn⟩ := hd
  exact { Touches.refl m o s with
    d := fun hm => absurd hd hm
    i := fun hm => absurd hi hm
    v := fun hm => absurd hv hm
    c := fun hm => absurd hc hm
    zn := fun hm => absurd hm hzn }

theorem Touches.logic (v : Byte) (ha : m ∈ writersOfA) (hzn : m ∉ keepersOfZN) : Touches m o s (s.logic v) :=
  (setA v (.inl ha)).trans (setZN v hzn)

theorem Touches.compare (r v : Byte) (hc : m ∈ writersOfC) (hzn : m ∉ keepersOfZN) : Touches m o s (s.compare r v) :=
  (setC _ hc).trans (setZN _ hzn)

theorem Touches.addWithCarry (v : Byte) (ha : m ∈ writersOfA) (hc : m ∈ writersOfC) (hv : m ∈ writersOfV)
    (hzn : m ∉ keepersOfZN) : Touches m o s (s.addWithCarry v) :=
  ((setCV _ _ hc hv).trans (setA _ (.inl ha))).trans (setZN _ hzn)

/-! ## The rules: bus and stack -/

theorem Touches.read {t : State} (h : ReadFrame s t) (hs : t.stored = s.stored) : Touches m o s t where
  a _ _ := by rw [h.cpu]
  x _ := by rw [h.cpu]
  y _ := by rw [h.cpu]
  sp _ := by rw [h.cpu]
  d _ := by rw [h.cpu]
  i _ := by rw [h.cpu]
  v _ := by rw [h.cpu]
  c _ := by rw [h.cpu]
  zn _ := by rw [h.cpu]; exact ⟨rfl, rfl⟩
  pc _ := by rw [h.cpu]
  cycles _ := by rw [h.cpu]
  fixed := h.write.fixed
  lines _ := by rw [State.lines, h.cpu]; rfl
  stored _ _ := hs

theorem Touches.write {t : State} (h : WriteFrame s t) (hs : Stores m o) : Touches m o s t where
  a _ _ := h.a
  x _ := h.x
  y _ := h.y
  sp _ := h.sp
  d _ := by rw [h.p]
  i _ := by rw [h.p]
  v _ := by rw [h.p]
  c _ := by rw [h.p]
  zn _ := by rw [h.p]; exact ⟨rfl, rfl⟩
  pc _ := h.pc
  cycles _ := h.cycles
  fixed := h.fixed
  lines hn := absurd hs hn
  stored hn _ := absurd hs hn

theorem Touches.setRam (r : Memory) (h : m ∈ pushers) : Touches m o s (s.setRam r) :=
  { Touches.refl m o s with stored := fun _ hm => absurd h hm }

/-- A run that touches what `m` may touch, or records the fault it raises. -/
abbrev Tame (m : Mnemonic) (o : Operand) (s : State) (r : Run State) : Prop := Post r (Touches m o s) Recorded

/-- The same for a run that also gives a value. -/
abbrev TameVal {α : Type} (m : Mnemonic) (o : Operand) (s : State) (r : Run (α × State)) : Prop :=
  Post r (fun p => Touches m o s p.2) Recorded

theorem tame_memRead (m : Mnemonic) (o : Operand) (a : Word) (s : State) : TameVal m o s (memRead a s) :=
  Post.intro (fun _ h => .read (memRead_frame h) (memRead_stored h)) fun _ h => memRead_recorded h

theorem tame_memWrite (a : Word) (v : Byte) (h : Stores m o) : Tame m o s (memWrite a v s) :=
  Post.intro (fun _ hw => .write (memWrite_frame hw) h) fun _ hw => memWrite_recorded hw

theorem tame_readOperand (m : Mnemonic) (o : Operand) (r : Resolved) (s : State) : TameVal m o s (readOperand o r s) := by
  unfold readOperand
  split
  · exact .ok (Touches.refl _ _ _)
  · exact .ok (Touches.refl _ _ _)
  · exact tame_memRead _ _ _ _

theorem tame_writeOperand (r : Resolved) (v : Byte) (h : m ∈ storers ∨ m ∈ shifters) :
    Tame m o s (writeOperand o r v s) := by
  unfold writeOperand
  split
  · exact .ok (.setA v (.inr rfl))
  · next hacc =>
    have ho : operandMode o ≠ .acc := fun hc => hacc (eq_acc_of_operandMode hc)
    exact tame_memWrite _ _ (h.imp_right fun hm => ⟨hm, ho⟩)

theorem tame_push (v : Byte) (h : m ∈ pushers) (hs : m ∈ writersOfS) : Tame m o s (push v s) := by
  rw [push_eq]
  exact .ok ((Touches.setRam _ h).trans (.setS _ hs))

theorem tame_pull (m : Mnemonic) (o : Operand) (s : State) (h : m ∈ writersOfS) : TameVal m o s (pull s) := by
  rw [pull_eq]
  exact .ok (.setS _ h)

theorem tame_pullWord (m : Mnemonic) (o : Operand) (s : State) (h : m ∈ writersOfS) : TameVal m o s (pullWord s) := by
  rw [pullWord_eq]
  exact .ok (.setS _ h)

end Sys2Proof.Machine
end

section
/-! What each handler touches, mnemonic by mnemonic, and so what an instruction touches. -/

namespace Sys2Proof.Machine

open Sys2Proof

variable {m : Mnemonic} {o : Operand} {s : State}

/-! ## Shapes of handlers -/

/-- A read of the operand, then a change of registers and flags. -/
theorem tame_read {g : Byte × State → Run State} (r : Resolved) (h : ∀ b t, ∃ u, g (b, t) = .ok u ∧ Touches m o t u) :
    Tame m o s (readOperand o r s >>= g) :=
  Post.bind (tame_readOperand m o r s) fun p hp => by
    obtain ⟨u, hu, ht⟩ := h p.1 p.2
    rw [show g p = .ok u from hu]
    exact .ok (hp.trans ht)

theorem tame_readModifyWrite {value : Bool → Byte → Byte} {pre : Bool → Byte → Flags → Flags} {post : Byte → State → State}
    (r : Resolved) (hm : m ∈ storers ∨ m ∈ shifters) (hpre : ∀ c b t, Touches m o t (t.flags (pre c b)))
    (hpost : ∀ b t, Touches m o t (post b t)) : Tame m o s (readModifyWrite value pre post o r s) :=
  Post.bind (tame_readOperand m o r s) fun p hp =>
    Post.bind (tame_writeOperand r _ hm) fun t ht => .ok (((hp.trans (hpre _ p.1 p.2)).trans ht).trans (hpost _ t))

theorem tame_shiftThen {f : Bool → Byte → Byte × Bool} {g : Byte → State → State} (r : Resolved)
    (hm : m ∈ storers ∨ m ∈ shifters) (hc : m ∈ writersOfC) (hg : ∀ b t, Touches m o t (g b t)) :
    Tame m o s (shiftThen f g o r s) := by
  rw [shiftThen_eq_readModifyWrite]
  exact tame_readModifyWrite r hm (fun _ _ _ => .setC _ hc) hg

theorem tame_shift (f : Bool → Byte → Byte × Bool) (r : Resolved) (hm : m ∈ storers ∨ m ∈ shifters)
    (hc : m ∈ writersOfC) (hzn : m ∉ keepersOfZN) : Tame m o s (shift f o r s) := by
  rw [shift_eq_readModifyWrite]
  exact tame_readModifyWrite r hm (fun _ _ _ => .setC _ hc) fun _ _ => .setZN _ hzn

theorem tame_branch (cond : Flags → Bool) (r : Resolved) (hm : m ∈ branchers) : Tame m o s (branch cond o r s) := by
  have hj : m ∈ jumpers := by
    revert hm
    cases m <;> decide
  unfold branch
  split
  · exact .ok ((Touches.charge _ hm).trans (.setPc _ hj))
  · exact .ok (.refl _ _ _)

theorem tame_storeHigh (r : Resolved) (reg : Byte) (hm : Stores m o) : Tame m o s (storeHigh r reg s) :=
  tame_memWrite _ _ hm

/-! ## The handlers -/

theorem tame_handlerOf (m : Mnemonic) (o : Operand) (r : Resolved) (s : State) : Tame m o s (handlerOf m o r s) := by
  cases m
  case lda => exact tame_read r fun b t => ⟨_, rfl, (Touches.setA _ (.inl (by decide))).trans (.setZN _ (by decide))⟩
  case ldx => exact tame_read r fun b t => ⟨_, rfl, (Touches.setX _ (by decide)).trans (.setZN _ (by decide))⟩
  case ldy => exact tame_read r fun b t => ⟨_, rfl, (Touches.setY _ (by decide)).trans (.setZN _ (by decide))⟩
  case lax =>
    exact tame_read r fun b t => ⟨_, rfl, ((Touches.setA _ (.inl (by decide))).trans (.setX _ (by decide))).trans
      (.setZN _ (by decide))⟩
  case las =>
    exact tame_read r fun b t => ⟨_, rfl, (((Touches.setA _ (.inl (by decide))).trans (.setX _ (by decide))).trans
      (.setS _ (by decide))).trans (.setZN _ (by decide))⟩
  case and => exact tame_read r fun b t => ⟨_, rfl, .logic _ (by decide) (by decide)⟩
  case ora => exact tame_read r fun b t => ⟨_, rfl, .logic _ (by decide) (by decide)⟩
  case eor => exact tame_read r fun b t => ⟨_, rfl, .logic _ (by decide) (by decide)⟩
  case ane => exact tame_read r fun b t => ⟨_, rfl, .logic _ (by decide) (by decide)⟩
  case bit =>
    exact tame_read r fun b t => ⟨_, rfl, { Touches.refl .bit o t with
      v := fun h => absurd (by decide) h, zn := fun h => absurd h (by decide) }⟩
  case adc => exact tame_read r fun b t => ⟨_, rfl, .addWithCarry _ (by decide) (by decide) (by decide) (by decide)⟩
  case sbc => exact tame_read r fun b t => ⟨_, rfl, .addWithCarry _ (by decide) (by decide) (by decide) (by decide)⟩
  case cmp => exact tame_read r fun b t => ⟨_, rfl, .compare _ _ (by decide) (by decide)⟩
  case cpx => exact tame_read r fun b t => ⟨_, rfl, .compare _ _ (by decide) (by decide)⟩
  case cpy => exact tame_read r fun b t => ⟨_, rfl, .compare _ _ (by decide) (by decide)⟩
  case anc =>
    exact tame_read r fun b t => ⟨_, rfl, (Touches.logic _ (by decide) (by decide)).trans (.setC _ (by decide))⟩
  case alr =>
    exact tame_read r fun b t => ⟨_, rfl, (Touches.setC _ (by decide)).trans (.logic _ (by decide) (by decide))⟩
  case arr =>
    exact tame_read r fun b t => ⟨_, rfl, (Touches.logic _ (by decide) (by decide)).trans
      (.setCV _ _ (by decide) (by decide))⟩
  case sbx =>
    exact tame_read r fun b t => ⟨_, rfl, ((Touches.setC _ (by decide)).trans (.setX _ (by decide))).trans
      (.setZN _ (by decide))⟩
  case sta => exact tame_writeOperand r _ (by decide)
  case stx => exact tame_writeOperand r _ (by decide)
  case sty => exact tame_writeOperand r _ (by decide)
  case sax => exact tame_writeOperand r _ (by decide)
  case sha => exact tame_storeHigh r _ (.inl (by decide))
  case shx => exact tame_storeHigh r _ (.inl (by decide))
  case shy => exact tame_storeHigh r _ (.inl (by decide))
  case tas =>
    exact (tame_storeHigh r _ (.inl (by decide))).mono (fun _ h => (Touches.setS _ (by decide)).trans h) fun _ h => h
  case inc =>
    exact tame_readModifyWrite (value := fun _ b => b + 1) (pre := fun _ _ p => p) (post := fun v t => t.setZN v) r (by decide)
      (fun _ _ _ => .refl _ _ _) fun _ _ => .setZN _ (by decide)
  case dec =>
    exact tame_readModifyWrite (value := fun _ b => b - 1) (pre := fun _ _ p => p) (post := fun v t => t.setZN v) r (by decide)
      (fun _ _ _ => .refl _ _ _) fun _ _ => .setZN _ (by decide)
  case asl => exact tame_shift (m := .asl) (fun _ => shiftLeft) r (by decide) (by decide) (by decide)
  case lsr => exact tame_shift (m := .lsr) (fun _ => shiftRight) r (by decide) (by decide) (by decide)
  case rol => exact tame_shift (m := .rol) rotateLeft r (by decide) (by decide) (by decide)
  case ror => exact tame_shift (m := .ror) rotateRight r (by decide) (by decide) (by decide)
  case slo =>
    show Tame _ _ _ (slo o r s)
    exact tame_shiftThen r (by decide) (by decide) fun _ _ => .logic _ (by decide) (by decide)
  case rla =>
    show Tame _ _ _ (rla o r s)
    exact tame_shiftThen r (by decide) (by decide) fun _ _ => .logic _ (by decide) (by decide)
  case sre =>
    show Tame _ _ _ (sre o r s)
    exact tame_shiftThen r (by decide) (by decide) fun _ _ => .logic _ (by decide) (by decide)
  case rra =>
    exact tame_shiftThen (m := .rra) (g := fun v t => t.addWithCarry v) r (by decide) (by decide) fun _ _ => .addWithCarry _ (by decide) (by decide) (by decide) (by decide)
  case dcp =>
    rw [handlerOf, dcp_eq_shiftThen]
    exact tame_shiftThen r (by decide) (by decide) fun _ _ => .compare _ _ (by decide) (by decide)
  case isc =>
    rw [handlerOf, isc_eq_shiftThen]
    exact tame_shiftThen (g := fun v t => t.addWithCarry (v ^^^ 0xFF)) r (by decide) (by decide) fun _ _ => .addWithCarry _ (by decide) (by decide) (by decide) (by decide)
  case tax => exact .ok ((Touches.setX _ (by decide)).trans (.setZN _ (by decide)))
  case tay => exact .ok ((Touches.setY _ (by decide)).trans (.setZN _ (by decide)))
  case txa => exact .ok ((Touches.setA _ (.inl (by decide))).trans (.setZN _ (by decide)))
  case tya => exact .ok ((Touches.setA _ (.inl (by decide))).trans (.setZN _ (by decide)))
  case tsx => exact .ok ((Touches.setX _ (by decide)).trans (.setZN _ (by decide)))
  case txs => exact .ok (.setS _ (by decide))
  case inx => exact .ok ((Touches.setX _ (by decide)).trans (.setZN _ (by decide)))
  case iny => exact .ok ((Touches.setY _ (by decide)).trans (.setZN _ (by decide)))
  case dex => exact .ok ((Touches.setX _ (by decide)).trans (.setZN _ (by decide)))
  case dey => exact .ok ((Touches.setY _ (by decide)).trans (.setZN _ (by decide)))
  case pha => exact tame_push _ (by decide) (by decide)
  case php => exact tame_push _ (by decide) (by decide)
  case pla =>
    exact Post.bind (tame_pull .pla o s (by decide)) fun p hp =>
      .ok (hp.trans ((Touches.setA _ (.inl (by decide))).trans (.setZN _ (by decide))))
  case plp => exact Post.bind (tame_pull _ o s (by decide)) fun p hp => .ok (hp.trans (.setStatus _ (by decide)))
  case jmp => exact .ok (.setPc _ (by decide))
  case jsr =>
    refine Post.bind (P := Touches .jsr o s) ?_ fun t ht => .ok (ht.trans (.setPc _ (by decide)))
    rw [pushWord_eq]
    exact .ok ((Touches.setRam _ (by decide)).trans (.setS _ (by decide)))
  case rts => exact Post.bind (tame_pullWord .rts o s (by decide)) fun p hp => .ok (hp.trans (.setPc _ (by decide)))
  case rti =>
    refine Post.bind (tame_pull .rti o s (by decide)) fun p hp => ?_
    refine Post.bind (tame_pullWord .rti o _ (by decide)) fun q hq => .ok ?_
    exact ((hp.trans (.setStatus _ (by decide))).trans hq).trans (.setPc _ (by decide))
  case brk =>
    rw [handlerOf, brk, enterInterrupt_eq true s (by decide) (by decide)]
    exact .ok { Touches.refl .brk o s with
      sp := fun h => absurd (by decide) h
      i := fun h => absurd (by decide) h
      pc := fun h => absurd (by decide) h
      stored := fun _ h => absurd (by decide) h }
  case bcc => exact tame_branch (m := .bcc) (fun p => !p.c) r (by decide)
  case bcs => exact tame_branch (m := .bcs) (fun p => p.c) r (by decide)
  case beq => exact tame_branch (m := .beq) (fun p => p.z) r (by decide)
  case bne => exact tame_branch (m := .bne) (fun p => !p.z) r (by decide)
  case bmi => exact tame_branch (m := .bmi) (fun p => p.n) r (by decide)
  case bpl => exact tame_branch (m := .bpl) (fun p => !p.n) r (by decide)
  case bvc => exact tame_branch (m := .bvc) (fun p => !p.v) r (by decide)
  case bvs => exact tame_branch (m := .bvs) (fun p => p.v) r (by decide)
  case clc => exact .ok (.setC false (by decide))
  case sec => exact .ok (.setC true (by decide))
  case cli => exact .ok (.setI false (by decide))
  case sei => exact .ok (.setI true (by decide))
  case clv => exact .ok (.setV false (by decide))
  case cld => exact .ok (.setD false (by decide))
  case sed => exact .ok (.setD true (by decide))
  case nop => exact .ok (.refl _ _ _)
  case illegal => exact .ok (.refl _ _ _)

/-! ## An instruction -/

theorem finish_next {r : Run State} {t : State} (h : finish r = .next t) : r = .ok t := by
  cases r with
  | ok u => cases h; rfl
  | error f => cases h

theorem finish_fault {r : Run State} {f : Fault} (h : finish r = .fault f) : r = .error f := by
  cases r with
  | ok u => cases h
  | error g => cases h; rfl

/-- An instruction that goes on has a handler. -/
theorem wellFormed_of_next {i : Instr} {t : State} (h : exec i s = .next t) : i.wellFormed s.unofficialExtras = true := by
  cases hw : i.wellFormed s.unofficialExtras with
  | true => rfl
  | false =>
    rw [exec_stop i s hw] at h
    cases h

/-- An instruction other than JMP that goes on: its handler ends in the next state. -/
theorem handlerOf_of_next {i : Instr} {t : State} (h : exec i s = .next t) (hj : i.mnemonic ≠ .jmp) :
    handlerOf i.mnemonic i.operand (s.target i.operand) (s.advanced i) = .ok t := by
  rw [exec_run (wellFormed_of_next h) (mode_ne_ind hj)] at h
  exact finish_next h

theorem tame_readPointer (m : Mnemonic) (o : Operand) (p : Word) (s : State) : TameVal m o s (readPointer p s) :=
  Post.bind (tame_memRead m o p s) fun _ hp => Post.bind (tame_memRead m o _ _) fun _ hq => .ok (hp.trans hq)

/-- The only instruction of mode `ind`. -/
theorem eq_jmpInd_of_mode {i : Instr} (h : operandMode i.operand = .ind) : ∃ p, i = .jmpInd p := by
  cases i <;> first | exact ⟨_, rfl⟩ | cases h

/-- An instruction that goes on touches, after its advance, what its mnemonic may touch. -/
theorem touches_of_next {i : Instr} {t : State} (h : exec i s = .next t) :
    Touches i.mnemonic i.operand (s.advanced i) t := by
  by_cases hm : operandMode i.operand = .ind
  · obtain ⟨p, rfl⟩ := eq_jmpInd_of_mode hm
    cases hp : readPointer p s with
    | error f =>
      rw [exec_eq _ s rfl, instruction, show (Instr.jmpInd p).operand = .ind p from rfl, resolve, hp] at h
      cases h
    | ok q =>
      obtain ⟨w, u⟩ := q
      rw [exec_jmpInd hp] at h
      cases h
      have hu : Touches .jmp (.ind p) s u := (tame_readPointer .jmp (.ind p) p s).of_ok hp
      exact { hu with
        pc := fun hc => absurd (show Mnemonic.jmp ∈ jumpers by decide) hc
        cycles := fun hc => congrArg (· + 5) (hu.cycles hc)
        stored := fun h h' => hu.stored h h' }
  · rw [exec_run (wellFormed_of_next h) hm] at h
    exact (tame_handlerOf _ _ _ _).of_ok (finish_next h)

theorem resolve_post (o : Operand) (s : State) : Post (resolve o s) (fun _ => True) Recorded := by
  by_cases ho : operandMode o = .ind
  · cases o with
    | ind p => exact Post.bind (tame_readPointer .jmp .imp p s) fun _ _ => .ok trivial
    | _ => cases ho
  · rw [resolve_target s ho]
    exact .ok trivial

/-- An instruction that stops records its fault. -/
theorem exec_recorded {i : Instr} {f : Fault} (h : exec i s = .fault f) : Recorded f := by
  cases hw : i.wellFormed s.unofficialExtras with
  | false =>
    rw [exec_stop i s hw] at h
    cases h
    exact recorded_raise _ _
  | true =>
    rw [exec_eq i s hw, instruction] at h
    obtain h | ⟨p, -, h⟩ := bind_error (finish_fault h)
    · exact (resolve_post i.operand s).of_error h
    · exact (tame_handlerOf _ _ _ _).of_error h

end Sys2Proof.Machine
end

section
/-! The frame statements about an instruction, and that a step that stops records its fault. -/

namespace Sys2Proof.Machine

open Sys2Proof

/-! ## The parts of a step -/

theorem exec_ne_refused (i : Instr) (s : State) (r : Refusal) : exec i s ≠ .refused r := by
  cases hw : i.wellFormed s.unofficialExtras with
  | true =>
    rw [exec_eq i s hw, instruction]
    generalize resolve i.operand s >>= _ = run
    cases run <;> exact nofun
  | false =>
    rw [exec_stop i s hw]
    exact nofun

/-- What a poll that takes at most `n` cycles leaves alone: all but the CPU and RAM. -/
structure PollFrame (n : Nat) (s t : State) : Prop where
  ppu : t.ppu = s.ppu
  cart : t.cart = s.cart
  fault : t.fault = s.fault
  extras : t.unofficialExtras = s.unofficialExtras
  later : s.cpu.cycles ≤ t.cpu.cycles
  soon : t.cpu.cycles ≤ s.cpu.cycles + n

theorem service_pollFrame {vector : Word} {s t : State} (hlow : 0x8000 ≤ vector) (hhigh : 0x8000 ≤ vector + 1)
    (h : service vector s = .ok t) : PollFrame 7 s t := by
  rw [service_eq s hlow hhigh] at h
  cases h
  exact ⟨rfl, rfl, rfl, rfl, Nat.le_add_right _ 7, Nat.le_refl _⟩

theorem pollIrq_ok (s : State) : ∃ t, pollIrq s = .ok t ∧ PollFrame 7 s t := by
  by_cases h : s.cpu.irqPending = false ∨ s.cpu.p.i = true
  · exact ⟨_, pollIrq_unserviced h, rfl, rfl, rfl, rfl, Nat.le_refl _, Nat.le_add_right _ 7⟩
  · simp only [not_or, Bool.not_eq_false, Bool.not_eq_true] at h
    obtain ⟨t, ht⟩ := service_irq_ok s
    obtain ⟨hp, hc, hf, he, hl, hs⟩ := service_pollFrame (by decide) (by decide) ht
    exact ⟨_, pollIrq_serviced h.1 h.2 ht, hp, hc, hf, he, hl, hs⟩

theorem pollNmi_ok (s : State) : ∃ t, pollNmi s = .ok t ∧ PollFrame 7 s t := by
  cases hn : s.cpu.nmiPending with
  | false => exact ⟨s, pollNmi_none hn, rfl, rfl, rfl, rfl, Nat.le_refl _, Nat.le_add_right _ 7⟩
  | true =>
    rcases Nat.eq_zero_or_pos s.cpu.nmiDelay with hd | hd
    · obtain ⟨t, ht⟩ := service_nmi_ok s
      obtain ⟨hp, hc, hf, he, hl, hs⟩ := service_pollFrame (by decide) (by decide) ht
      exact ⟨_, pollNmi_serviced hn hd ht, hp, hc, hf, he, hl, hs⟩
    · exact ⟨_, pollNmi_delayed hn hd, rfl, rfl, rfl, rfl, Nat.le_refl _, Nat.le_add_right _ 7⟩

/-- The poll completes in every state (R403). -/
theorem interruptPoll_ok (s : State) : ∃ t, interruptPoll s = .ok t ∧ PollFrame 14 s t := by
  obtain ⟨t, ht, h1⟩ := pollIrq_ok s
  obtain ⟨u, hu, h2⟩ := pollNmi_ok t
  exact ⟨u, (interruptPoll_of_irq ht).trans hu, h2.ppu.trans h1.ppu, h2.cart.trans h1.cart, h2.fault.trans h1.fault,
    h2.extras.trans h1.extras, Nat.le_trans h1.later h2.later, Nat.le_trans h2.soon (Nat.add_le_add_right h1.soon 7)⟩

theorem readBytes_post : ∀ (n : Nat) (a : Word) (s : State), Post (readBytes n a s) (fun p => ReadFrame s p.2) Recorded := by
  intro n
  induction n with
  | zero =>
    intro a s
    exact .ok (ReadFrame.refl s)
  | succ n ih =>
    intro a s
    exact Post.bind (Post.intro (fun _ h => memRead_frame h) fun _ h => memRead_recorded h) fun p hp =>
      Post.bind (ih (a + 1) p.2) fun _ hq => .ok (hp.trans hq)

/-- A fetch only reads, or records the fault it raises. -/
theorem fetch_post (s : State) : Post (fetch s) (fun p => ReadFrame s p.2) Recorded := by
  unfold fetch
  refine Post.bind (P := fun p => ReadFrame s p.2)
    (Post.intro (fun _ h => memRead_frame h) fun _ h => memRead_recorded h) ?_
  rintro ⟨op, t⟩ ht
  simp only []
  split
  · refine Post.bind (readBytes_post _ _ t) ?_
    rintro ⟨bs, u⟩ hu
    simp only []
    split
    · exact .ok (ht.trans hu)
    · exact .error (recorded_raise _ _)
  · exact .error (recorded_raise _ _)

theorem pollAndFetch_post (s : State) : Post (pollAndFetch s) (fun p => ∃ t, PollFrame 14 s t ∧ ReadFrame t p.2) Recorded := by
  obtain ⟨t, ht, hpoll⟩ := interruptPoll_ok s
  rw [pollAndFetch_of_poll ht]
  exact (fetch_post t).mono (fun _ h => ⟨t, hpoll, h⟩) fun _ h => h

/-- An outcome that holds the record of its fault, or no fault. -/
def RecordedOutcome : Host.Outcome State Fault Refusal → Prop
  | .next t => t.fault = none
  | .fault f => Recorded f
  | .refused _ => False

theorem RecordedOutcome.cases {o : Host.Outcome State Fault Refusal} (h : RecordedOutcome o) :
    (∀ f, o = .fault f → Recorded f) ∧ (∀ t, o = .next t → t.fault = none) ∧ (∀ r, o ≠ .refused r) := by
  refine ⟨fun f hf => ?_, fun t ht => ?_, fun r hr => ?_⟩
  · subst hf
    exact h
  · subst ht
    exact h
  · subst hr
    exact h

/-- The devices leave the fault alone. -/
theorem afterInstruction_recorded {o : Host.Outcome State Fault Refusal} (h : RecordedOutcome o) (before : State) :
    RecordedOutcome (afterInstruction before o) := by
  cases o with
  | next t => exact (devices_dotFrame _ t).fault.trans h
  | fault f => exact h
  | refused r => exact h

theorem exec_recordedOutcome (i : Instr) {s : State} (h : s.fault = none) : RecordedOutcome (exec i s) := by
  cases he : exec i s with
  | next t => exact (congrArg Fixed.fault (touches_of_next he).fixed).trans h
  | fault f => exact exec_recorded he
  | refused r => exact exec_ne_refused i s r he

theorem step_recorded {s : State} (hf : s.fault = none) : RecordedOutcome (step s) := by
  rcases Nat.eq_zero_or_pos s.cpu.idle with hi | hi
  · cases hp : pollAndFetch s with
    | error f =>
      rw [step_of_pollAndFetch_error hf hi hp]
      exact (pollAndFetch_post s).of_error hp
    | ok p =>
      obtain ⟨t, hpoll, hread⟩ := (pollAndFetch_post s).of_ok hp
      rw [step_of_pollAndFetch hf hi hp]
      exact afterInstruction_recorded (exec_recordedOutcome p.1 (hread.fault.trans (hpoll.fault.trans hf))) s
  · rw [step_of_idle hf hi]
    exact (devices_dotFrame _ _).fault.trans hf

/-- Settles O7: the poll cannot fault; the fetch and the instruction record theirs; the devices leave the fault alone. -/
theorem stepFaultIsRecorded : Obligations.StepFaultIsRecorded := by
  unfold Obligations.StepFaultIsRecorded
  intro s hf
  exact (step_recorded hf).cases

/-! ## Registers, flags, PC and cycles -/

theorem operandMode_of_storers {i : Instr} (h : i.mnemonic ∈ storers) : operandMode i.operand ≠ .acc := by
  have rows : ∀ op, (opcodeRow op).mnemonic ∈ storers → (encodingOf (opcodeRow op)).mode ≠ .acc := by decide
  rw [← mnemonic_opcodeRow] at h
  have := rows _ h
  rwa [encodingOf_opcodeRow] at this

/-- The forms of `Stores` are those of which `State.StoresTo` gives the address. -/
theorem stores_iff {i : Instr} (s : State) : Stores i.mnemonic i.operand ↔ ∃ ea, s.StoresTo i ea := by
  constructor
  · rintro (h | ⟨h, ho⟩)
    · have ho := operandMode_of_storers h
      generalize hm : i.mnemonic = m at h
      unfold State.StoresTo
      rw [hm]
      revert h
      cases m <;> intro h <;> simp [storers] at h <;> simp [ho]
    · exact ⟨_, .inl ⟨by revert h; cases i.mnemonic <;> decide, ho, rfl⟩⟩
  · rintro ⟨ea, ⟨h, ho, -⟩ | ⟨h, -⟩ | ⟨h, -⟩ | ⟨h, -⟩⟩
    · have : i.mnemonic ∈ storers ∨ i.mnemonic ∈ shifters := by
        revert h
        cases i.mnemonic <;> decide
      exact this.imp_right fun hm => ⟨hm, ho⟩
    · left
      revert h
      cases i.mnemonic <;> decide
    · left
      rw [h]
      decide
    · left
      rw [h]
      decide

end Sys2Proof.Machine
end

section
/-! The frame statements: which registers, flags and bytes of storage an instruction can change, and what it costs. -/

namespace Sys2Proof.Machine

open Sys2Proof

/-! ## The one bus write of a store -/

/-- The two shapes of the handlers that store to their effective address: a store of a register, or a read, a change of flags and
the store of the modified byte, which ends in a change of registers and flags. -/
theorem handlerOf_storing {m : Mnemonic} (hm : m ∈ [.sta, .stx, .sty, .sax, .inc, .dec, .asl, .lsr, .rol, .ror, .dcp, .isc, .slo,
      .rla, .sre, .rra]) :
    (∃ reg : State → Byte, handlerOf m = fun o r s => writeOperand o r (reg s) s) ∨
      ∃ value pre post, handlerOf m = readModifyWrite value pre post ∧ ∀ v t, (post v t).stored = t.stored := by
  have shiftThen_storing (f : Bool → Byte → Byte × Bool) (g : Byte → State → State)
      (hf : handlerOf m = shiftThen f g) (hg : ∀ v t, (g v t).stored = t.stored) :
      ∃ value pre post, handlerOf m = readModifyWrite value pre post ∧ ∀ v t, (post v t).stored = t.stored :=
    ⟨_, _, _, hf.trans (shiftThen_eq_readModifyWrite f g), hg⟩
  simp only [List.mem_cons, List.not_mem_nil, or_false] at hm
  rcases hm with rfl | rfl | rfl | rfl | rfl | rfl | rfl | rfl | rfl | rfl | rfl | rfl | rfl | rfl | rfl | rfl
  · exact .inl ⟨(·.cpu.a), rfl⟩
  · exact .inl ⟨(·.cpu.x), rfl⟩
  · exact .inl ⟨(·.cpu.y), rfl⟩
  · exact .inl ⟨fun s => s.cpu.a &&& s.cpu.x, rfl⟩
  · exact .inr ⟨fun _ b => b + 1, fun _ _ p => p, fun v t => t.setZN v, rfl, fun _ _ => rfl⟩
  · exact .inr ⟨fun _ b => b - 1, fun _ _ p => p, fun v t => t.setZN v, rfl, fun _ _ => rfl⟩
  · exact .inr ⟨_, _, _, shift_eq_readModifyWrite (fun _ => shiftLeft), fun _ _ => rfl⟩
  · exact .inr ⟨_, _, _, shift_eq_readModifyWrite (fun _ => shiftRight), fun _ _ => rfl⟩
  · exact .inr ⟨_, _, _, shift_eq_readModifyWrite rotateLeft, fun _ _ => rfl⟩
  · exact .inr ⟨_, _, _, shift_eq_readModifyWrite rotateRight, fun _ _ => rfl⟩
  · exact .inr (shiftThen_storing _ _ dcp_eq_shiftThen fun _ _ => rfl)
  · exact .inr (shiftThen_storing _ _ isc_eq_shiftThen fun _ _ => rfl)
  · exact .inr (shiftThen_storing (fun _ => shiftLeft) (fun v s => s.logic (s.cpu.a ||| v)) rfl fun _ _ => rfl)
  · exact .inr (shiftThen_storing rotateLeft (fun v s => s.logic (s.cpu.a &&& v)) rfl fun _ _ => rfl)
  · exact .inr (shiftThen_storing (fun _ => shiftRight) (fun v s => s.logic (s.cpu.a ^^^ v)) rfl fun _ _ => rfl)
  · exact .inr (shiftThen_storing rotateRight (fun v s => s.addWithCarry v) rfl fun _ _ => rfl)

theorem readOperand_stored {o : Operand} {r : Resolved} {s t : State} {b : Byte} (h : readOperand o r s = .ok (b, t)) :
    t.stored = s.stored := by
  unfold readOperand at h
  split at h
  · cases h
    rfl
  · cases h
    rfl
  · exact memRead_stored h

/-- An instruction that stores to `ea` makes one bus write there; before and after it, it only reads and changes registers. -/
theorem exec_stores {i : Instr} {s t : State} {ea : Word} (h : exec i s = .next t) (he : s.StoresTo i ea) :
    ∃ u v w, u.stored = s.stored ∧ memWrite ea v u = .ok w ∧ t.stored = w.stored := by
  have high {m : Mnemonic} {reg : State → Byte} {pre : State → State} (hm : i.mnemonic = m) (hj : m ≠ .jmp)
      (hf : handlerOf m = fun _ r s => storeHigh r (reg s) (pre s)) (hpre : (pre (s.advanced i)).stored = s.stored)
      (hea : ea = (let r := s.target i.operand
        if r.crossed then wordOf (reg (s.advanced i) &&& (hiByte r.base + 1)) (loByte r.ea) else r.ea)) :
      ∃ u v w, u.stored = s.stored ∧ memWrite ea v u = .ok w ∧ t.stored = w.stored := by
    have hh := handlerOf_of_next h (hm ▸ hj)
    rw [hm, hf] at hh
    subst hea
    exact ⟨_, _, _, hpre, hh, rfl⟩
  obtain ⟨hm, ho, rfl⟩ | ⟨hm, rfl⟩ | ⟨hm, rfl⟩ | ⟨hm, rfl⟩ := he
  · have hj : i.mnemonic ≠ .jmp := by
      intro hc
      rw [hc] at hm
      revert hm
      decide
    have hh := handlerOf_of_next h hj
    obtain ⟨reg, hf⟩ | ⟨value, pre, post, hf, hpost⟩ := handlerOf_storing hm
    · rw [hf] at hh
      replace hh := (writeOperand_eq_memWrite _ _ _ ho).symm.trans hh
      exact ⟨s.advanced i, _, _, rfl, hh, rfl⟩
    · rw [hf] at hh
      obtain ⟨⟨b, u⟩, hu, hh⟩ := bind_ok hh
      obtain ⟨w, hw, hh⟩ := bind_ok hh
      rw [writeOperand_eq_memWrite _ _ _ ho] at hw
      cases hh
      have hflags : (u.flags (pre u.cpu.p.c b)).stored = u.stored := rfl
      have hread : u.stored = (s.advanced i).stored := readOperand_stored hu
      exact ⟨_, _, w, hflags.trans hread, hw, hpost _ w⟩
  · simp only [List.mem_cons, List.not_mem_nil, or_false] at hm
    obtain hm | hm := hm
    · exact high (reg := fun s => s.cpu.a &&& s.cpu.x) (pre := id) hm (by decide) rfl rfl rfl
    · exact high (reg := fun s => s.cpu.a &&& s.cpu.x) (pre := fun s => s.setS (s.cpu.a &&& s.cpu.x)) hm (by decide) rfl rfl rfl
  · exact high (reg := (·.cpu.x)) (pre := id) hm (by decide) rfl rfl rfl
  · exact high (reg := (·.cpu.y)) (pre := id) hm (by decide) rfl rfl rfl

/-! ## Registers, flags, PC and cycles -/

/-- Settles O30: `Touches` lists the registers; the stall changes only in the bus write of a store. -/
theorem registerFrame : Obligations.RegisterFrame := by
  unfold Obligations.RegisterFrame
  intro i s t h
  have ht := touches_of_next h
  have fixed {α : Type} (f : Fixed → α) : f t.fixed = f s.fixed := congrArg f ht.fixed
  refine ⟨ht.a, ht.x, ht.y, ht.sp, fixed Fixed.irqPending, fixed Fixed.extras, fixed Fixed.image, fixed Fixed.lastFrame,
    fixed Fixed.fault, fixed Fixed.scanline, fixed Fixed.cycle, fixed Fixed.framebuffer, fun hn => ?_, fun ea he hne => ?_⟩
  · have hl := ht.lines fun hs => ((stores_iff s).mp hs).elim hn
    exact ⟨congrArg Lines.idle hl, congrArg Lines.nmiPending hl, congrArg Lines.nmiDelay hl⟩
  · obtain ⟨u, v, w, hu, hw, hk⟩ := exec_stores h he
    have idle {s t : State} (h : t.stored = s.stored) : t.cpu.idle = s.cpu.idle := congrArg (·.cpu.idle) h
    rw [idle hk, memWrite_idle hw hne, idle hu]

/-- Settles O31: the flags that `Touches` lists. -/
theorem flagFrame : Obligations.FlagFrame := by
  unfold Obligations.FlagFrame
  intro i s t h
  have ht := touches_of_next h
  exact ⟨congrArg Fixed.b ht.fixed, ht.d, ht.i, ht.v, ht.c, ht.zn⟩

/-- Settles O35: after the advance such an instruction changes neither `PC` nor `cycles`. -/
theorem sequentialPcAndCycles : Obligations.SequentialPcAndCycles := by
  unfold Obligations.SequentialPcAndCycles
  intro i s t h hm
  have ht := touches_of_next h
  refine ⟨?_, ?_⟩
  · rw [ht.pc hm]
    show (s.cpu.pc + BitVec.ofNat 16 i.size).toNat = _
    rw [BitVec.toNat_add, BitVec.toNat_ofNat, Nat.add_mod_mod]
  · have hb : i.mnemonic ∉ branchers := fun hb => hm (by revert hb; cases i.mnemonic <;> decide)
    rw [ht.cycles hb]
    simp [State.advanced, target_crossed]

/-- Settles O32: reads and changes of registers leave what is stored. -/
theorem readFormsStoreNothing : Obligations.ReadFormsStoreNothing := by
  unfold Obligations.ReadFormsStoreNothing
  intro i s t h hm hshift
  have hs : t.stored = s.stored := by
    refine (touches_of_next h).stored ?_ ?_
    · rintro (hc | ⟨hc, ho⟩)
      · exact hm (by revert hc; cases i.mnemonic <;> decide)
      · exact ho (hshift hc)
    · intro hc
      exact hm (by revert hc; cases i.mnemonic <;> decide)
  have keeps {α : Type} (f : State → α) (hf : ∀ u : State, f u.stored = f u) : f t = f s := by
    rw [← hf t, hs, hf]
  exact ⟨fun a => keeps (peek a) fun _ => rfl, keeps (·.bus.ram) fun _ => rfl, keeps (·.cart) fun _ => rfl,
    keeps (·.bus.ctrlButtons) fun _ => rfl, keeps (·.ppu.vram) fun _ => rfl, keeps (·.ppu.palette) fun _ => rfl,
    keeps (·.ppu.oam) fun _ => rfl, keeps (·.ppu.oamAddr) fun _ => rfl, keeps (·.ppu.t) fun _ => rfl,
    keeps (·.ppu.fineX) fun _ => rfl, keeps (·.ppu.ctrl) fun _ => rfl, keeps (·.ppu.mask) fun _ => rfl,
    keeps (·.ppu.lastWrite) fun _ => rfl⟩

end Sys2Proof.Machine
end

section
/-! The CPU bus, one rule for each range of addresses (spec/20_memory.md section 1), and the statements about what an access gives,
stores and leaves. -/

namespace Sys2Proof.Machine

open Sys2Proof

variable {s t : State} {a : Word}

/-! ## Writes, range by range -/

theorem memWrite_ppuReg (v : Byte) (s : State) (h1 : 0x2000 ≤ a) (h2 : a < 0x4000) :
    memWrite a v s = s.ppuRegWrite (ppuReg a) v := by
  unfold memWrite
  rw [if_neg (by bv_omega), if_pos h2]

theorem memWrite_stub (v : Byte) (s : State) (h1 : 0x4000 ≤ a) (h2 : a < 0x4020) (hd : a ≠ 0x4014) (hc : a ≠ 0x4016) :
    memWrite a v s = .ok s := by
  unfold memWrite
  rw [if_neg (by bv_omega), if_neg (by bv_omega), if_neg hd, if_neg hc, if_pos h2]

theorem memWrite_cart {v : Byte} {k : Cart} (h : 0x4020 ≤ a) (hk : s.cart.cpuWrite a v = some k) :
    memWrite a v s = .ok (s.setCart k) := by
  unfold memWrite
  rw [if_neg (by bv_omega), if_neg (by bv_omega), if_neg (by bv_omega), if_neg (by bv_omega), if_neg (by bv_omega), hk]

theorem memWrite_unmapped (v : Byte) (s : State) (h1 : 0x4020 ≤ a) (h2 : a < 0x6000) :
    memWrite a v s = .error (s.raise (.invalidAddress a .write)) := by
  unfold memWrite
  rw [if_neg (by bv_omega), if_neg (by bv_omega), if_neg (by bv_omega), if_neg (by bv_omega), if_neg (by bv_omega),
    Cart.cpuWrite, if_pos h2]

theorem memWrite_prgRam (v : Byte) (s : State) (h1 : 0x6000 ≤ a) (h2 : a < 0x8000) :
    memWrite a v s = .ok (s.setCart (if s.cart.regs.hasPrgRam then
      { s.cart with prgRam := s.cart.prgRam.write (a.toNat - 0x6000) v } else s.cart)) := by
  apply memWrite_cart (by bv_omega)
  rw [Cart.cpuWrite, if_neg (by bv_omega), if_pos h2]

theorem memWrite_mapper (v : Byte) (s : State) (h : 0x8000 ≤ a) :
    memWrite a v s = .ok (s.setCart (s.cart.registerWrite a v)) := by
  apply memWrite_cart (by bv_omega)
  rw [Cart.cpuWrite, if_neg (by bv_omega), if_neg (by bv_omega)]

/-! ## Reads, range by range -/

theorem memRead_ppuReg (s : State) (h1 : 0x2000 ≤ a) (h2 : a < 0x4000) : memRead a s = .ok (s.ppuRegRead (ppuReg a)) := by
  unfold memRead
  rw [if_neg (by bv_omega), if_pos h2]

theorem memRead_stub (s : State) (h1 : 0x4000 ≤ a) (h2 : a < 0x4020) (hc : a ≠ 0x4016) : memRead a s = .ok (0, s) := by
  unfold memRead
  rw [if_neg (by bv_omega), if_neg (by bv_omega), if_neg hc, if_pos h2]

theorem memRead_unmapped (s : State) (h1 : 0x4020 ≤ a) (h2 : a < 0x6000) :
    memRead a s = .error (s.raise (.invalidAddress a .read)) := by
  unfold memRead
  rw [if_neg (by bv_omega), if_neg (by bv_omega), if_neg (by bv_omega), if_neg (by bv_omega), Cart.cpuRead, if_pos h2]

theorem memRead_prgRam (s : State) (h1 : 0x6000 ≤ a) (h2 : a < 0x8000) :
    memRead a s = .ok (if s.cart.regs.hasPrgRam then s.cart.prgRam.read (a.toNat - 0x6000) else 0, s) := by
  apply memRead_peek
  unfold peek Cart.cpuRead
  rw [if_neg (by bv_omega), if_neg (by bv_omega), if_neg (by bv_omega), if_pos h2]

/-! ## When an access succeeds -/

theorem memRead_ok_iff (s : State) (a : Word) : (∃ b t, memRead a s = .ok (b, t)) ↔ readable a = true := by
  refine ⟨?_, memRead_ok s⟩
  rintro ⟨b, t, h⟩
  refine Decidable.byContradiction fun hn => ?_
  simp only [readable, Bool.or_eq_true, decide_eq_true_eq, not_or] at hn
  rw [memRead_unmapped s (by bv_omega) (by bv_omega)] at h
  cases h

/-- A copy of OAM-DMA that completes read every address it names. -/
theorem dmaCopy_readable (page : Byte) : ∀ (n i : Nat) {s t : State}, dmaCopy page n i s = .ok t →
    ∀ k, k < n → readable (wordOf page (BitVec.ofNat 8 (i + k))) = true := by
  intro n
  induction n with
  | zero =>
    intro i s t h k hk
    exact absurd hk (Nat.not_lt_zero k)
  | succ n ih =>
    intro i s t h k hk
    obtain ⟨⟨b, u⟩, hu, hrest⟩ := bind_ok h
    cases k with
    | zero => exact (memRead_ok_iff _ _).mp ⟨b, u, hu⟩
    | succ k =>
      have := ih (i + 1) hrest k (by omega)
      rwa [show i + 1 + k = i + (k + 1) by omega] at this

/-- OAM-DMA completes only from a readable page: it reaches `0x20` of the page (R90). -/
theorem page_of_dmaCopy {page : Byte} (h : dmaCopy page 256 0 s = .ok t) : page < 0x40 ∨ 0x60 ≤ page := by
  have hr := dmaCopy_readable page 256 0 h 0x20 (by omega)
  have hw := wordOf_toNat page 0x20
  simp only [readable, Bool.or_eq_true, decide_eq_true_eq] at hr
  have hk : BitVec.ofNat 8 (0 + 0x20) = (0x20 : Byte) := rfl
  rw [hk] at hr
  bv_omega

theorem chrRam_of_ppuRegWrite {d : Byte} (h : s.ppuRegWrite 7 d = .ok t) :
    0x2000 ≤ s.ppu.v.toNat % 0x4000 ∨ s.cart.image.usesChrRam = true := by
  obtain ⟨u, hu, -⟩ := bind_ok h
  refine Decidable.byContradiction fun hn => ?_
  simp only [not_or, Nat.not_le, Bool.not_eq_true] at hn
  obtain ⟨hv, hc⟩ := hn
  have hcart : (s.setPpu { s.ppu with lastWrite := d }).cart.chrWrite (s.ppu.v.toNat % 0x4000) d = none := by
    rw [Cart.chrWrite, show (s.setPpu { s.ppu with lastWrite := d }).cart = s.cart from rfl, hc]
    rfl
  unfold State.ppuWrite at hu
  simp only [show (s.setPpu { s.ppu with lastWrite := d }).ppu.v = s.ppu.v from rfl, if_pos hv, hcart] at hu
  cases hu

theorem memWrite_ok_iff (s : State) (a : Word) (v : Byte) : (∃ t, memWrite a v s = .ok t) ↔ s.writable a v = true := by
  refine ⟨?_, memWrite_ok⟩
  rintro ⟨t, h⟩
  unfold State.writable
  split
  · rfl
  next h2 =>
  split
  · next h4 =>
    rw [memWrite_ppuReg v s (by bv_omega) h4] at h
    by_cases h7 : ppuReg a = 7
    · rw [h7] at h
      obtain h | h := chrRam_of_ppuRegWrite h <;> simp [h]
    · simp [h7]
  next h4 =>
  split
  · next hd =>
    subst hd
    obtain ⟨u, hu, -⟩ := bind_ok h
    simpa using page_of_dmaCopy hu
  · refine Decidable.byContradiction fun hn => ?_
    simp only [readable, Bool.or_eq_true, decide_eq_true_eq, not_or] at hn
    rw [memWrite_unmapped v s (by bv_omega) (by bv_omega)] at h
    cases h

/-- Settles O36: the rules of the ranges. -/
theorem busAccess : Obligations.BusAccess := by
  unfold Obligations.BusAccess
  intro s a v
  refine ⟨?_, memWrite_ok_iff s a v, fun h1 h2 => ⟨memRead_unmapped s h1 h2, memWrite_unmapped v s h1 h2⟩,
    fun h1 h2 => ⟨memRead_stub s h1 h2, memWrite_stub v s h1 h2⟩, fun h1 h2 hr => ?_, memRead_prgRom s⟩
  · rw [memRead_ok_iff, readable, Bool.or_eq_true, decide_eq_true_eq, decide_eq_true_eq]
  · rw [memRead_ppuReg s h1 h2, show ppuReg a = a.toNat % 8 by unfold ppuReg; bv_omega]
    simp only [List.mem_cons, List.not_mem_nil, or_false] at hr
    obtain hr | hr | hr | hr | hr := hr <;> rw [hr] <;> rfl

/-! ## Storage -/

/-- RAM as before, and of the cartridge at most CHR changed. -/
def StorageKept (s t : State) : Prop := t.bus.ram = s.bus.ram ∧ ∃ chr, t.cart = { s.cart with chr := chr }

theorem ppuWrite_storage {addr : Nat} {v : Byte} (h : s.ppuWrite addr v = .ok t) : StorageKept s t := by
  unfold State.ppuWrite Cart.chrWrite at h
  simp only [] at h
  split at h
  · split at h
    · next k hk =>
      split at hk
      · cases hk
        cases h
        exact ⟨rfl, _, rfl⟩
      · cases hk
    · cases h
  · split at h <;> (cases h; exact ⟨rfl, _, rfl⟩)

theorem ppuRegWrite_storage {r : Nat} {d : Byte} (h : s.ppuRegWrite r d = .ok t) : StorageKept s t := by
  unfold State.ppuRegWrite at h
  simp only [] at h
  split at h
  · cases h
    unfold State.writePpuCtrl State.nmiChange
    simp only []
    split <;> exact ⟨rfl, _, rfl⟩
  · cases h; exact ⟨rfl, _, rfl⟩
  · cases h; exact ⟨rfl, _, rfl⟩
  · cases h; exact ⟨rfl, _, rfl⟩
  · cases h; exact ⟨rfl, _, rfl⟩
  · cases h; exact ⟨rfl, _, rfl⟩
  · cases h; exact ⟨rfl, _, rfl⟩
  · obtain ⟨u, hu, hrest⟩ := bind_ok h
    cases hrest
    have hstore : StorageKept (s.setPpu { s.ppu with lastWrite := d }) u := ppuWrite_storage hu
    exact hstore

theorem dmaCopy_storage (page : Byte) : ∀ (n i : Nat) {s t : State}, dmaCopy page n i s = .ok t →
    t.bus.ram = s.bus.ram ∧ t.cart = s.cart := by
  intro n
  induction n with
  | zero =>
    intro i s t h
    cases h
    exact ⟨rfl, rfl⟩
  | succ n ih =>
    intro i s t h
    obtain ⟨⟨b, u⟩, hu, hrest⟩ := bind_ok h
    obtain ⟨hram, hcart⟩ := ih _ hrest
    exact ⟨hram.trans (memRead_frame hu).ram, hcart.trans (memRead_frame hu).cart⟩

theorem controllerWrite_storage (s : State) (v : Byte) : StorageKept s (s.controllerWrite v) := by
  unfold State.controllerWrite State.hostButtons
  split
  · simp only []
    split <;> exact ⟨rfl, _, rfl⟩
  · exact ⟨rfl, _, rfl⟩

/-- Between RAM and PRG-RAM, a write stores to no byte that the CPU can read back. -/
theorem memWrite_storage {v : Byte} (h : memWrite a v s = .ok t) (h1 : 0x2000 ≤ a) (h2 : a < 0x6000) : StorageKept s t := by
  by_cases h4 : a < 0x4000
  · rw [memWrite_ppuReg v s h1 h4] at h
    exact ppuRegWrite_storage h
  by_cases hd : a = 0x4014
  · subst hd
    obtain ⟨u, hu, hrest⟩ := bind_ok h
    cases hrest
    obtain ⟨hram, hcart⟩ := dmaCopy_storage _ _ _ hu
    exact ⟨hram, u.cart.chr, by rw [← hcart]⟩
  by_cases hc : a = 0x4016
  · subst hc
    cases h
    exact controllerWrite_storage s v
  by_cases h5 : a < 0x4020
  · rw [memWrite_stub v s (by bv_omega) h5 hd hc] at h
    cases h
    exact ⟨rfl, _, rfl⟩
  · rw [memWrite_unmapped v s (by bv_omega) h2] at h
    cases h

theorem hasPrgRam_registerWrite (k : Cart) (a : Word) (d : Byte) :
    (k.registerWrite a d).regs.hasPrgRam = k.regs.hasPrgRam := by
  unfold Cart.registerWrite
  split <;> next h => simp only [h, MapperRegs.hasPrgRam]

/-- Below `0x8000` a write reaches neither the mapper's registers nor the mirroring nor the file's data (R603). -/
theorem memWrite_regs {v : Byte} (h : memWrite a v s = .ok t) (ha : a < 0x8000) :
    t.cart.regs = s.cart.regs ∧ t.cart.mirroring = s.cart.mirroring := by
  by_cases h2 : a < 0x2000
  · rw [memWrite_ram v s h2] at h
    cases h
    exact ⟨rfl, rfl⟩
  by_cases h6 : a < 0x6000
  · obtain ⟨-, chr, hcart⟩ := memWrite_storage h (by bv_omega) h6
    rw [hcart]
    exact ⟨rfl, rfl⟩
  · rw [memWrite_prgRam v s (by bv_omega) ha] at h
    cases h
    show (ite _ _ _ : Cart).regs = _ ∧ (ite _ _ _ : Cart).mirroring = _
    split <;> exact ⟨rfl, rfl⟩

/-- Settles O37: the rules of RAM, PRG-RAM and the mapper's registers. -/
theorem cpuWriteEffects : Obligations.CpuWriteEffects := by
  unfold Obligations.CpuWriteEffects
  intro s t a b v hs h
  obtain ⟨-, ⟨hram, -⟩, -, -, -, hprg, -⟩ := hs
  refine ⟨fun ha hb => ?_, fun ha ha8 hb hb8 => ?_, fun ha => ?_, fun ha => ?_⟩
  · rw [memWrite_ram v s ha] at h
    cases h
    rw [memRead_ram _ hb]
    show Except.ok ((s.bus.ram.write (ramIndex a) v).read (ramIndex b), _) = _
    rw [Memory.read_write v hram]
    rfl
  · rw [memWrite_prgRam v s ha ha8] at h
    cases h
    rw [memRead_prgRam _ hb hb8]
    cases hp : s.cart.regs.hasPrgRam with
    | false => simp [State.setCart, hp]
    | true =>
      have hindex : b.toNat - 0x6000 = a.toNat - 0x6000 ↔ b = a := by bv_omega
      simp [State.setCart, hp, Memory.read_write v hprg, hindex]
  · rw [memWrite_mapper v s ha] at h
    cases h
    obtain ⟨hi, hc, hp, he⟩ := registerWrite_arrays s.cart a v
    refine ⟨hi, hc, hp, he, rfl, rfl, rfl, fun hn => ?_⟩
    have : s.cart.registerWrite a v = s.cart := by
      unfold Cart.registerWrite
      rw [hn]
    rw [this]
    rfl
  · obtain ⟨hr, hm⟩ := memWrite_regs h ha
    exact ⟨hr, hm, (memWrite_frame h).image⟩

/-! ## The controller port -/

theorem controllerWrite_set {v : Byte} (s : State) (h : v.getLsbD 0 = true) : s.controllerWrite v =
    { s.hostButtons.2 with bus := { s.hostButtons.2.bus with ctrlButtons := s.hostButtons.1, ctrlIndex := 0 } } := by
  rw [State.controllerWrite, if_pos h]

theorem hostButtons_cons {b : Buttons} {rest : List Buttons} (h : s.buttonInputs = b :: rest) :
    s.hostButtons = (b, { s with buttonInputs := rest }) := by
  rw [State.hostButtons, h]

theorem hostButtons_nil (h : s.buttonInputs = []) :
    s.hostButtons = (Buttons.ofByte (Config.hostButtons s.draws), s.drawn) := by
  rw [State.hostButtons, h]

theorem bit_zeroExtend (c : Bool) : ((bit c).zeroExtend 8 : Byte) = if c then 1 else 0 := by
  cases c <;> rfl

/-- Settles O38: the latch of the next input, and the buttons one by one. -/
theorem controllerShiftsOut : Obligations.ControllerShiftsOut := by
  unfold Obligations.ControllerShiftsOut
  intro s v latched
  have write : memWrite 0x4016 v s = .ok (s.controllerWrite v) := rfl
  have read : memRead 0x4016 s = .ok s.controllerRead := rfl
  rw [write, read]
  refine ⟨fun h => ?_, fun b rest h hq => ?_, fun h hq => ?_, fun k hk => ?_, fun h => ?_⟩
  · rw [State.controllerWrite, h]
    rfl
  · rw [controllerWrite_set s h, hostButtons_cons hq]
  · exact ⟨_, by rw [controllerWrite_set s h, hostButtons_nil hq]; rfl⟩
  · rw [State.controllerRead, if_pos (by omega), bit_zeroExtend, hk]
    obtain ⟨n, hn⟩ := k
    obtain rfl | rfl | rfl | rfl | rfl | rfl | rfl | rfl := eq_of_lt_eight hn <;> rfl
  · rw [State.controllerRead, if_neg (by omega), bit_zeroExtend]
    rfl

end Sys2Proof.Machine
end

section
/-! What a store and a push leave of storage, and the copy of OAM-DMA. -/

namespace Sys2Proof.Machine

open Sys2Proof

variable {s t : State} {a ea : Word}

/-! ## Bytes that read as before -/

/-- Below PRG-ROM, what can be read back depends on RAM, on PRG-RAM and on whether the variant has it. -/
theorem peek_congr (hram : t.bus.ram = s.bus.ram) (hprg : t.cart.prgRam = s.cart.prgRam)
    (hhas : t.cart.regs.hasPrgRam = s.cart.regs.hasPrgRam) (ha : a < 0x8000) : peek a t = peek a s := by
  unfold peek Cart.cpuRead
  rw [hram, hprg, hhas]
  simp only [if_pos ha]

theorem peek_of_storageKept (h : StorageKept s t) : peek a t = peek a s := by
  obtain ⟨hram, chr, hcart⟩ := h
  unfold peek
  rw [hram, hcart]
  rfl

/-- A write to RAM changes the bytes of its cell only (R83). -/
theorem peek_memWrite_ram {v : Byte} (h : memWrite ea v s = .ok t) (hea : ea < 0x2000) (hram : s.bus.ram.wf 2048 = true)
    (hcell : sameRamCell a ea = false) : peek a t = peek a s := by
  rw [memWrite_ram v s hea] at h
  cases h
  unfold peek
  split
  · next ha =>
    have hindex : ramIndex a ≠ ramIndex ea := by
      intro hc
      rw [sameRamCell, decide_eq_true ha, decide_eq_true hea, decide_eq_true hc] at hcell
      cases hcell
    show some ((s.bus.ram.write (ramIndex ea) v).read (ramIndex a)) = _
    rw [Memory.read_write v hram, if_neg hindex]
  · rfl

/-- A write to PRG-RAM changes its own byte only (R603). -/
theorem peek_memWrite_prgRam {v : Byte} (h : memWrite ea v s = .ok t) (h6 : 0x6000 ≤ ea) (h8 : ea < 0x8000)
    (hprg : s.cart.prgRam.wf 8192 = true) (hne : a ≠ ea) : peek a t = peek a s := by
  rw [memWrite_prgRam v s h6 h8] at h
  cases h
  cases hp : s.cart.regs.hasPrgRam with
  | false => rfl
  | true =>
    show peek a (s.setCart { s.cart with prgRam := s.cart.prgRam.write (ea.toNat - 0x6000) v }) = _
    unfold peek Cart.cpuRead
    split
    · rfl
    split
    · rfl
    split
    · rfl
    split
    · have hindex : a.toNat - 0x6000 ≠ ea.toNat - 0x6000 := by bv_omega
      show some (if s.cart.regs.hasPrgRam = true then
        (s.cart.prgRam.write (ea.toNat - 0x6000) v).read (a.toNat - 0x6000) else 0) = _
      rw [Memory.read_write v hprg, if_neg hindex, hp]
      rfl
    · rfl

/-- A bus write changes the byte at its address only; one to a mapper register can change what all of PRG-ROM reads. -/
theorem peek_memWrite {v : Byte} (h : memWrite ea v s = .ok t) (hram : s.bus.ram.wf 2048 = true)
    (hprg : s.cart.prgRam.wf 8192 = true) (hne : a ≠ ea) (hcell : sameRamCell a ea = false) (h8 : ea < 0x8000 ∨ a < 0x8000) :
    peek a t = peek a s := by
  by_cases h2 : ea < 0x2000
  · exact peek_memWrite_ram h h2 hram hcell
  by_cases h6 : ea < 0x6000
  · exact peek_of_storageKept (memWrite_storage h (by bv_omega) h6)
  by_cases hlow : ea < 0x8000
  · exact peek_memWrite_prgRam h (by bv_omega) hlow hprg hne
  · rw [memWrite_mapper v s (by bv_omega)] at h
    cases h
    exact peek_congr rfl (registerWrite_arrays s.cart ea v).2.2.1 (hasPrgRam_registerWrite _ _ _) (h8.resolve_left hlow)

/-- Outside the PPU window and `0x4014` a write reaches neither the PPU nor the CPU nor CHR. -/
theorem memWrite_outside_ppu {v : Byte} (h : memWrite ea v s = .ok t) (hw : ¬ (0x2000 ≤ ea ∧ ea < 0x4000)) (hd : ea ≠ 0x4014) :
    t.ppu = s.ppu ∧ t.cpu = s.cpu ∧ t.cart.chr = s.cart.chr := by
  by_cases h2 : ea < 0x2000
  · rw [memWrite_ram v s h2] at h
    cases h
    exact ⟨rfl, rfl, rfl⟩
  by_cases hc : ea = 0x4016
  · subst hc
    cases h
    unfold State.controllerWrite State.hostButtons
    split
    · simp only []
      split <;> exact ⟨rfl, rfl, rfl⟩
    · exact ⟨rfl, rfl, rfl⟩
  by_cases h5 : ea < 0x4020
  · rw [memWrite_stub v s (by bv_omega) h5 hd hc] at h
    cases h
    exact ⟨rfl, rfl, rfl⟩
  by_cases h6 : ea < 0x6000
  · rw [memWrite_unmapped v s (by bv_omega) h6] at h
    cases h
  by_cases h8 : ea < 0x8000
  · rw [memWrite_prgRam v s (by bv_omega) h8] at h
    cases h
    refine ⟨rfl, rfl, ?_⟩
    show (ite _ _ _ : Cart).chr = _
    split <;> rfl
  · rw [memWrite_mapper v s (by bv_omega)] at h
    cases h
    exact ⟨rfl, rfl, (registerWrite_arrays s.cart ea v).2.1⟩

/-- Settles O33: what the one bus write of the store leaves, read off what is stored before and after it. -/
theorem storeFrame : Obligations.StoreFrame := by
  unfold Obligations.StoreFrame
  intro i s t ea h he hs
  obtain ⟨u, v, w, hu, hw, ht⟩ := exec_stores h he
  have chain {α : Type} {f : State → α} (hf : ∀ x : State, f x.stored = f x) (hstep : f w = f u) : f t = f s := by
    rw [← hf t, ht, hf, hstep, ← hf u, hu, hf]
  obtain ⟨-, ⟨hram, -⟩, -, -, -, hprg, -⟩ := hs
  have huram : u.bus.ram = s.bus.ram := congrArg (·.bus.ram) hu
  have hucart : u.cart = s.cart := congrArg (·.cart) hu
  rw [← huram] at hram
  rw [← hucart] at hprg
  have hframe := memWrite_frame hw
  refine ⟨fun a hne hcell h8 => ?_, ?_, ?_, fun hwin hd => ?_, fun h8 => ?_, fun hd => ?_⟩
  · exact chain (f := peek a) (fun _ => rfl) (peek_memWrite hw hram hprg hne hcell h8)
  · exact chain (f := (·.cart.image)) (fun _ => rfl) hframe.image
  · exact chain (f := (·.cart.expRam)) (fun _ => rfl) hframe.expRam
  · obtain ⟨hppu, hcpu, hchr⟩ := memWrite_outside_ppu hw hwin hd
    exact ⟨chain (f := (·.ppu.vram)) (fun _ => rfl) (by rw [hppu]), chain (f := (·.ppu.palette)) (fun _ => rfl) (by rw [hppu]),
      chain (f := (·.ppu.oam)) (fun _ => rfl) (by rw [hppu]), chain (f := (·.cart.chr)) (fun _ => rfl) hchr,
      chain (f := (·.cpu.nmiPending)) (fun _ => rfl) (by rw [hcpu])⟩
  · obtain ⟨hregs, hmir⟩ := memWrite_regs hw h8
    exact ⟨chain (f := (·.cart.regs)) (fun _ => rfl) hregs, chain (f := (·.cart.mirroring)) (fun _ => rfl) hmir⟩
  · exact chain (f := (·.cpu.idle)) (fun _ => rfl) (memWrite_idle hw hd)

/-! ## OAM-DMA -/

/-- The copy from a page of RAM (R90): `n` bytes from offset `i` go to OAM from `oamAddr` on, wrapping; the rest of OAM stays. -/
theorem dmaCopy_ram {page : Byte} (hp : page < 0x20) : ∀ (n i : Nat) (s : State), i + n ≤ 256 → s.ppu.oam.wf 256 = true →
    ∃ o, dmaCopy page n i s = .ok (s.setPpu { s.ppu with oam := o, oamAddr := s.ppu.oamAddr + BitVec.ofNat 8 n }) ∧
      (∀ k, k < n → o.read ((s.ppu.oamAddr.toNat + k) % 256) = s.bus.ram.read ((256 * page.toNat + (i + k)) % 2048)) ∧
      ∀ j, (∀ k, k < n → j ≠ (s.ppu.oamAddr.toNat + k) % 256) → o.read j = s.ppu.oam.read j := by
  intro n
  induction n with
  | zero =>
    intro i s _ _
    refine ⟨s.ppu.oam, ?_, fun k hk => absurd hk (Nat.not_lt_zero k), fun _ _ => rfl⟩
    rw [BitVec.add_zero]
    rfl
  | succ n ih =>
    intro i s hi hwf
    have haddr : s.ppu.oamAddr.toNat < 256 := s.ppu.oamAddr.isLt
    have hsource := wordOf_toNat page (BitVec.ofNat 8 i)
    have hoffset : (BitVec.ofNat 8 i).toNat = i := Nat.mod_eq_of_lt (by omega)
    rw [hoffset] at hsource
    have hread := memRead_ram s (a := wordOf page (BitVec.ofNat 8 i)) (by bv_omega)
    rw [ramIndex, hsource] at hread
    generalize hb : s.bus.ram.read ((256 * page.toNat + i) % 0x800) = b at hread
    obtain ⟨o, hcopy, hcopied, hrest⟩ := ih (i + 1) (s.setPpu (s.ppu.writeOamData b)) (by omega)
      (Memory.wf_write b hwf haddr)
    have hnext : (s.ppu.oamAddr + 1).toNat = (s.ppu.oamAddr.toNat + 1) % 256 := by bv_omega
    have hindex (k : Nat) : ((s.ppu.oamAddr + 1).toNat + k) % 256 = (s.ppu.oamAddr.toNat + (k + 1)) % 256 := by omega
    have hlast : s.ppu.oamAddr + 1 + BitVec.ofNat 8 n = s.ppu.oamAddr + BitVec.ofNat 8 (n + 1) := by
      rw [BitVec.ofNat_add, BitVec.add_assoc, BitVec.add_comm 1]
      rfl
    have hwrite (j : Nat) : (s.ppu.writeOamData b).oam.read j = if j = s.ppu.oamAddr.toNat then b else s.ppu.oam.read j :=
      Memory.read_write b hwf _ j
    refine ⟨o, ?_, fun k hk => ?_, fun j hj => ?_⟩
    · rw [dmaCopy, hread, ok_bind]
      simp only []
      rw [hcopy, ← hlast]
      rfl
    · cases k with
      | zero =>
        have hfirst : (s.ppu.oamAddr.toNat + 0) % 256 = s.ppu.oamAddr.toNat := by omega
        rw [hfirst, Nat.add_zero]
        refine (hrest _ fun k hk => ?_).trans ((hwrite _).trans ?_)
        · show s.ppu.oamAddr.toNat ≠ ((s.ppu.oamAddr + 1).toNat + k) % 256
          omega
        · rw [if_pos rfl, hb]
      | succ k =>
        rw [← hindex k, ← Nat.add_assoc i k 1, Nat.add_right_comm i k 1]
        exact hcopied k (by omega)
    · refine (hrest j fun k hk => ?_).trans ((hwrite j).trans (if_neg ?_))
      · exact (hindex k).symm ▸ hj (k + 1) (by omega)
      · have := hj 0 (by omega)
        omega

theorem memWrite_oamDma {page : Byte} {u : State} (h : dmaCopy page 256 0 s = .ok u) :
    memWrite 0x4014 page s = .ok { u with cpu := { u.cpu with
      idle := u.cpu.idle + (if u.cpu.cycles % 2 = 1 then 514 else 513) } } := by
  show oamDma page s = _
  rw [oamDma, h]
  rfl

/-- Settles O39: `dmaCopy_ram` for the 256 bytes of the page, and the stall by the parity of `cycles`. -/
theorem oamDmaCopies : Obligations.OamDmaCopies := by
  unfold Obligations.OamDmaCopies
  intro s page hs hp
  obtain ⟨-, -, ⟨-, -, -, hwf, -⟩, -⟩ := hs
  obtain ⟨o, hcopy, hcopied, -⟩ := dmaCopy_ram hp 256 0 s (by omega) hwf
  refine ⟨_, memWrite_oamDma hcopy, fun k hk => ?_, ?_, rfl, rfl, rfl, rfl, rfl⟩
  · have hbyte := hcopied k hk
    rw [Nat.zero_add] at hbyte
    exact hbyte
  · exact BitVec.add_zero _

/-! ## Pushes -/

/-- Writes to RAM cells other than that of `a` leave the byte at `a`. -/
theorem peek_setRam_write {m : Memory} {k : Nat} {v : Byte} (hm : m.wf 2048 = true) (hk : a < 0x2000 → ramIndex a ≠ k) :
    peek a (s.setRam (m.write k v)) = peek a (s.setRam m) := by
  unfold peek
  split
  · next ha =>
    show some ((m.write k v).read (ramIndex a)) = some (m.read (ramIndex a))
    rw [Memory.read_write v hm, if_neg (hk ha)]
  · rfl

/-- Which RAM cell is meant when `a` is outside stack slot `n`. -/
theorem ramIndex_ne_slot {n : Nat} (hn : n < 256) (h : sameRamCell a (BitVec.ofNat 16 (0x100 + n)) = false) (ha : a < 0x2000) :
    ramIndex a ≠ 0x100 + n := by
  have hslot : (BitVec.ofNat 16 (0x100 + n)).toNat = 0x100 + n := by rw [BitVec.toNat_ofNat]; omega
  intro hc
  have hlt : BitVec.ofNat 16 (0x100 + n) < 0x2000 := by bv_omega
  have hcell : ramIndex a = ramIndex (BitVec.ofNat 16 (0x100 + n)) := by
    rw [hc, ramIndex, hslot]
    omega
  rw [sameRamCell, decide_eq_true ha, decide_eq_true hlt, decide_eq_true hcell] at h
  cases h

theorem eq_pha {i : Instr} (h : i.mnemonic = .pha) : i = .pha := by
  cases i <;> first | rfl | cases h

theorem eq_php {i : Instr} (h : i.mnemonic = .php) : i = .php := by
  cases i <;> first | rfl | cases h

theorem eq_jsr {i : Instr} (h : i.mnemonic = .jsr) : ∃ w, i = .jsrAbs w := by
  cases i <;> first | exact ⟨_, rfl⟩ | cases h

theorem eq_brk {i : Instr} (h : i.mnemonic = .brk) : i = .brk := by
  cases i <;> first | rfl | cases h

/-- Settles O34: the results of the four instructions, and the cells that their writes to RAM reach. -/
theorem stackFrame : Obligations.StackFrame := by
  unfold Obligations.StackFrame
  intro i s t h hm hs
  obtain ⟨-, ⟨hram, -⟩, -⟩ := hs
  have hsp : s.cpu.s.toNat < 256 := s.cpu.s.isLt
  have hzero : 0x100 + s.cpu.s.toNat = 0x100 + (s.cpu.s.toNat + 256 - 0) % 256 := by omega
  have wf {m : Memory} {n : Nat} {v : Byte} (hm : m.wf 2048 = true) : (m.write (0x100 + n % 256) v).wf 2048 = true :=
    Memory.wf_write v hm (by omega)
  have slot {a : Word} {n : Nat} (h : sameRamCell a (BitVec.ofNat 16 (0x100 + n % 256)) = false) :=
    ramIndex_ne_slot (Nat.mod_lt n (by decide)) h
  obtain ⟨⟨-, hpha⟩, ⟨-, hphp⟩, -⟩ := pushPullResults s
  obtain ⟨⟨-, hbrk⟩, -⟩ := interruptInstructionResults s
  simp only [List.mem_cons, List.not_mem_nil, or_false] at hm
  obtain hm | hm | hm | hm := hm
  · obtain rfl := eq_pha hm
    cases hpha.symm.trans h
    refine ⟨fun a ha => ?_, rfl⟩
    show peek a (s.setRam (s.bus.ram.write (0x100 + s.cpu.s.toNat) s.cpu.a)) = _
    rw [hzero]
    exact peek_setRam_write hram (slot (ha 0 (by decide)))
  · obtain rfl := eq_php hm
    cases hphp.symm.trans h
    refine ⟨fun a ha => ?_, rfl⟩
    show peek a (s.setRam (s.bus.ram.write (0x100 + s.cpu.s.toNat) (s.cpu.p.statusByte true))) = _
    rw [hzero]
    exact peek_setRam_write hram (slot (ha 0 (by decide)))
  · obtain ⟨w, rfl⟩ := eq_jsr hm
    obtain ⟨-, -, ⟨-, hjsr⟩, -⟩ := jumpResults s w
    cases hjsr.symm.trans h
    refine ⟨fun a ha => ?_, rfl⟩
    show peek a (s.setRam ((s.bus.ram.write (0x100 + s.cpu.s.toNat) (hiByte (s.cpu.pc + 2))).write
      (0x100 + (s.cpu.s.toNat + 255) % 256) (loByte (s.cpu.pc + 2)))) = _
    rw [hzero]
    exact (peek_setRam_write (wf hram) (slot (ha 1 (show 1 < 2 by decide)))).trans (peek_setRam_write hram (slot (ha 0 (show 0 < 2 by decide))))
  · obtain rfl := eq_brk hm
    cases hbrk.symm.trans h
    refine ⟨fun a ha => ?_, rfl⟩
    show peek a (s.setRam (((s.bus.ram.write (0x100 + s.cpu.s.toNat) (hiByte (s.cpu.pc + 2))).write
      (0x100 + (s.cpu.s.toNat + 255) % 256) (loByte (s.cpu.pc + 2))).write
      (0x100 + (s.cpu.s.toNat + 254) % 256) (s.cpu.p.statusByte true))) = _
    rw [hzero]
    exact (peek_setRam_write (wf (wf hram)) (slot (ha 2 (by decide)))).trans
      ((peek_setRam_write (wf hram) (slot (ha 1 (by decide)))).trans (peek_setRam_write hram (slot (ha 0 (by decide)))))

end Sys2Proof.Machine
end

section
/-! The PPU's registers (spec/61_ppu.md section 2), at every mirror: writes of the control, mask, scroll and address registers, the
status read, the data port, OAM and the palette. -/

namespace Sys2Proof.Machine

open Sys2Proof

variable {s t : State}

/-! ## The mirrors -/

/-- Register `r` at its mirror `k`, of the 1024 in the window (R84). -/
theorem ppuReg_mirror {n r k : Nat} (hn : n = 0x2000 + r) (hr : r < 8) (hk : k < 1024) :
    0x2000 ≤ BitVec.ofNat 16 (n + 8 * k) ∧ BitVec.ofNat 16 (n + 8 * k) < 0x4000 ∧ ppuReg (BitVec.ofNat 16 (n + 8 * k)) = r := by
  have hword : (BitVec.ofNat 16 (n + 8 * k)).toNat = n + 8 * k := by
    rw [BitVec.toNat_ofNat]
    omega
  unfold ppuReg
  refine ⟨?_, ?_, ?_⟩ <;> bv_omega

theorem memWrite_mirror {n r k : Nat} (d : Byte) (s : State) (hn : n = 0x2000 + r) (hr : r < 8) (hk : k < 1024) :
    memWrite (BitVec.ofNat 16 (n + 8 * k)) d s = s.ppuRegWrite r d := by
  obtain ⟨h1, h2, hreg⟩ := ppuReg_mirror hn hr hk
  rw [memWrite_ppuReg d s h1 h2, hreg]

theorem memRead_mirror {n r k : Nat} (s : State) (hn : n = 0x2000 + r) (hr : r < 8) (hk : k < 1024) :
    memRead (BitVec.ofNat 16 (n + 8 * k)) s = .ok (s.ppuRegRead r) := by
  obtain ⟨h1, h2, hreg⟩ := ppuReg_mirror hn hr hk
  rw [memRead_ppuReg s h1 h2, hreg]

/-! ## `$2000` and `$2001` -/

theorem nmiChange_ppu (s : State) :
    s.nmiChange.ppu = { s.ppu with nmiLine := s.ppu.vblank && s.ppu.ctrl.nmiEnable } := by
  unfold State.nmiChange
  simp only []
  split <;> rfl

/-- An NMI is pending after `NmiChange()` if one was, or on the edge (R550). -/
theorem nmiChange_nmiPending (s : State) : s.nmiChange.cpu.nmiPending =
    (s.cpu.nmiPending || (s.ppu.vblank && s.ppu.ctrl.nmiEnable && !s.ppu.nmiLine)) := by
  unfold State.nmiChange
  simp only []
  split
  · next h =>
    rw [h, Bool.or_true]
    rfl
  · next h =>
    rw [eq_false_of_ne_true h, Bool.or_false]
    rfl

/-- The bits of `t` after a write of `$2000`: the nametable bits come from the byte (R507). -/
theorem nametableBits_getLsbD (v : BitVec 15) (d : Byte) (j : Nat) :
    ((v &&& 0x73FF) ||| ((d.extractLsb' 0 2).zeroExtend 15 <<< 10)).getLsbD j =
      if j = 10 then d.getLsbD 0 else if j = 11 then d.getLsbD 1 else v.getLsbD j := by
  by_cases h : j < 15
  · revert j
    simp only [Nat.forall_lt_succ_right]
    simp
  · have hj : 15 ≤ j := by omega
    rw [BitVec.getLsbD_of_ge _ _ hj, if_neg (by omega), if_neg (by omega), BitVec.getLsbD_of_ge _ _ hj]

/-- Settles O43: the decoded byte, then `NmiChange()` for `$2000`. -/
theorem controlAndMaskWrites : Obligations.ControlAndMaskWrites := by
  unfold Obligations.ControlAndMaskWrites
  intro s k d hk
  refine ⟨⟨_, memWrite_mirror d s (r := 0) rfl (by decide) hk, ?_⟩, _, memWrite_mirror d s (r := 1) rfl (by decide) hk, rfl, rfl⟩
  unfold State.writePpuCtrl
  rw [nmiChange_ppu, nmiChange_nmiPending]
  refine ⟨rfl, nametableBits_getLsbD s.ppu.t d, rfl, rfl, rfl, ?_⟩
  show (s.cpu.nmiPending || (s.ppu.vblank && d.getLsbD 7 && !s.ppu.nmiLine)) = true ↔ _
  simp [and_assoc]

/-! ## `$2005` and `$2006` -/

theorem append_toNat {m n : Nat} (x : BitVec m) (y : BitVec n) : (x ++ y).toNat = 2 ^ n * x.toNat + y.toNat := by
  rw [BitVec.toNat_append, Nat.shiftLeft_eq, Nat.mul_comm, ← Nat.two_pow_add_eq_or_of_lt y.isLt]

/-- `t` after both writes of `$2005` (R514): fine Y, the old nametable bits, coarse Y, coarse X. -/
theorem scrollPair_t (v : BitVec 15) (x y : Byte) :
    ((((v &&& 0x7FE0) ||| (x >>> 3).zeroExtend 15) &&& 0x0C1F) ||| ((y &&& 0x07).zeroExtend 15 <<< 12) |||
        ((y &&& 0xF8).zeroExtend 15 <<< 2) : BitVec 15) =
      (y.extractLsb' 0 3 ++ v.extractLsb' 10 2 ++ y.extractLsb' 3 5 ++ x.extractLsb' 3 5 : BitVec (3 + 2 + 5 + 5)) := by
  apply BitVec.eq_of_getLsbD_eq
  intro j hj
  simp only [BitVec.getLsbD_append]
  revert j
  simp only [Nat.forall_lt_succ_right]
  simp

/-- `t` after both writes of `$2006` (R515): six bits of the first byte, all of the second. -/
theorem addressPair_t (v : BitVec 15) (x y : Byte) :
    ((((v &&& 0x00FF) ||| ((x &&& 0x3F).zeroExtend 15 <<< 8)) &&& 0x7F00) ||| y.zeroExtend 15 : BitVec 15) =
      ((0 : BitVec 1) ++ x.extractLsb' 0 6 ++ y : BitVec (1 + 6 + 8)) := by
  apply BitVec.eq_of_getLsbD_eq
  intro j hj
  simp only [BitVec.getLsbD_append]
  revert j
  simp only [Nat.forall_lt_succ_right]
  simp

theorem extract_toNat {w : Nat} (x : BitVec w) (start len : Nat) :
    (x.extractLsb' start len).toNat = x.toNat / 2 ^ start % 2 ^ len := by
  rw [BitVec.extractLsb'_toNat, Nat.shiftRight_eq_div_pow]

theorem extract_low_toNat {w : Nat} (x : BitVec w) (len : Nat) : (x.extractLsb' 0 len).toNat = x.toNat % 2 ^ len := by
  rw [extract_toNat, Nat.pow_zero, Nat.div_one]

/-- The fields of a number put together from coarse X, coarse Y, the nametable and fine Y. -/
theorem fields_of_eq {n cx cy nt fy : Nat} (h : n = 32 * (32 * (4 * fy + nt) + cy) + cx) (hx : cx < 32) (hy : cy < 32)
    (hn : nt < 4) : n % 32 = cx ∧ n / 32 % 32 = cy ∧ n / 1024 % 4 = nt ∧ n / 4096 = fy := by
  refine ⟨?_, ?_, ?_, ?_⟩ <;> omega

theorem ppuRegWrite_scroll_first (d : Byte) (hw : s.ppu.w = false) : s.ppuRegWrite 5 d = .ok (s.setPpu { s.ppu with
    lastWrite := d, t := (s.ppu.t &&& 0x7FE0) ||| (d >>> 3).zeroExtend 15, fineX := d.extractLsb' 0 3, w := true }) := by
  simp only [State.ppuRegWrite, Ppu.writeScroll, State.setPpu, hw, if_true]

theorem ppuRegWrite_scroll_second (d : Byte) (hw : s.ppu.w = true) : s.ppuRegWrite 5 d = .ok (s.setPpu { s.ppu with
    lastWrite := d
    t := (s.ppu.t &&& 0x0C1F) ||| ((d &&& 0x07).zeroExtend 15 <<< 12) ||| ((d &&& 0xF8).zeroExtend 15 <<< 2)
    w := false }) := by
  simp only [State.ppuRegWrite, Ppu.writeScroll, State.setPpu, hw, Bool.true_eq_false, if_false]

theorem ppuRegWrite_address_first (d : Byte) (hw : s.ppu.w = false) : s.ppuRegWrite 6 d = .ok (s.setPpu { s.ppu with
    lastWrite := d, t := (s.ppu.t &&& 0x00FF) ||| ((d &&& 0x3F).zeroExtend 15 <<< 8), w := true }) := by
  simp only [State.ppuRegWrite, Ppu.writeAddr, State.setPpu, hw, if_true]

theorem ppuRegWrite_address_second (d : Byte) (hw : s.ppu.w = true) : s.ppuRegWrite 6 d = .ok (s.setPpu { s.ppu with
    lastWrite := d
    t := (s.ppu.t &&& 0x7F00) ||| d.zeroExtend 15
    v := (s.ppu.t &&& 0x7F00) ||| d.zeroExtend 15
    w := false }) := by
  simp only [State.ppuRegWrite, Ppu.writeAddr, State.setPpu, hw, Bool.true_eq_false, if_false]

/-- Settles O44: the two half-writes of each pair, and the fields of the `t` they make. -/
theorem scrollAndAddressPairs : Obligations.ScrollAndAddressPairs := by
  unfold Obligations.ScrollAndAddressPairs
  intro s j k x y hw hj hk
  have write (r : Nat) (d : Byte) (t : State) {n k : Nat} (hn : n = 0x2000 + r) (hr : r < 8) (hk : k < 1024) :=
    memWrite_mirror d t hn hr hk
  have hv := s.ppu.t.isLt
  have hx := x.isLt
  have hy := y.isLt
  refine ⟨⟨_, (write 5 x s rfl (by decide) hj).trans (ppuRegWrite_scroll_first x hw), rfl, rfl, rfl, _,
    (write 5 y _ rfl (by decide) hk).trans (ppuRegWrite_scroll_second y rfl), ?_, ?_, ?_⟩,
    _, (write 6 x s rfl (by decide) hj).trans (ppuRegWrite_address_first x hw), rfl, rfl, rfl, _,
    (write 6 y _ rfl (by decide) hk).trans (ppuRegWrite_address_second y rfl), ?_, ?_⟩
  · simp only [State.setPpu, hw]
  · exact extract_low_toNat x 3
  · have ht := congrArg BitVec.toNat (scrollPair_t s.ppu.t x y)
    simp only [append_toNat] at ht
    obtain ⟨hcx, hcy, hnt, hfy⟩ := fields_of_eq ht (BitVec.isLt _) (BitVec.isLt _) (BitVec.isLt _)
    have hx8 : x.toNat / 8 % 32 = x.toNat / 8 := by omega
    have hy8 : y.toNat / 8 % 32 = y.toNat / 8 := by omega
    exact ⟨hcx.trans ((extract_toNat x 3 5).trans hx8), hcy.trans ((extract_toNat y 3 5).trans hy8),
      hnt.trans (extract_toNat _ 10 2), hfy.trans (extract_low_toNat y 3)⟩
  · simp only [State.setPpu, hw]
  · have ht := congrArg BitVec.toNat (addressPair_t s.ppu.t x y)
    simp only [append_toNat, extract_toNat] at ht
    simp only [State.setPpu, ht]
    have hzero : (0 : BitVec 1).toNat = 0 := rfl
    omega

/-! ## `$2002` -/

theorem status_toNat (u : Ppu) : u.status.toNat = 128 * u.vblank.toNat + 64 * u.spriteZeroHit.toNat +
    32 * u.spriteOverflow.toNat + u.lastWrite.toNat % 32 := by
  unfold Ppu.status
  simp only [append_toNat, extract_toNat, BitVec.toNat_ofBool]
  omega

/-- Settles O45: `readPpuStatus_eq` at every mirror, and the weights of the four fields. -/
theorem statusRead : Obligations.StatusRead := by
  unfold Obligations.StatusRead
  intro s k hk
  refine ⟨_, ?_, status_toNat s.ppu⟩
  rw [memRead_mirror s (r := 2) rfl (by decide) hk]
  exact congrArg Except.ok (readPpuStatus_eq s)

/-! ## `$2007` -/

theorem ppuRead_chr (s : State) {addr : Nat} (h : addr % 0x4000 < 0x2000) :
    s.ppuRead addr = s.cart.chrRead (addr % 0x4000) := by
  rw [State.ppuRead, if_pos h]

theorem ppuRead_vram (s : State) {addr : Nat} (h : 0x2000 ≤ addr % 0x4000) (h' : addr % 0x4000 < 0x3F00) :
    s.ppuRead addr = s.ppu.vram.read (s.cart.vramIndex (addr % 0x4000)) := by
  rw [State.ppuRead, if_neg (by omega), if_pos h']

theorem ppuRead_palette (s : State) {addr : Nat} (h : 0x3F00 ≤ addr % 0x4000) :
    s.ppuRead addr = s.ppu.palette.read (paletteIndex (addr % 0x4000)) := by
  rw [State.ppuRead, if_neg (by omega), if_neg (by omega)]

/-- Only a Mapper185 can lock its CHR (R660). -/
theorem chrRead_unlocked {k : Cart} (h : ∀ st, k.regs ≠ .mapper185 st) (a : Nat) : k.chrRead a = k.chr.read (k.chrOffset a) := by
  unfold Cart.chrRead
  split
  · next st hst => exact absurd hst (h st)
  · rfl

/-- The increment of `v` as a number (R518). -/
theorem incrementV_eq (u : Ppu) :
    u.incrementV = { u with v := BitVec.ofNat 15 (u.v.toNat + (if u.ctrl.increment32 then 32 else 1)) } := by
  have hv : u.v + (if u.ctrl.increment32 then 32 else 1) =
      BitVec.ofNat 15 (u.v.toNat + (if u.ctrl.increment32 then 32 else 1)) := by
    rw [BitVec.ofNat_add, BitVec.ofNat_toNat, BitVec.setWidth_eq]
    split <;> rfl
  rw [Ppu.incrementV, hv]

/-- A write of `$2007`, as the PPU write that it makes (R517). -/
theorem ppuRegWrite_data {d : Byte} {u : State}
    (h : (s.setPpu { s.ppu with lastWrite := d }).ppuWrite s.ppu.v.toNat d = .ok u) :
    s.ppuRegWrite 7 d = .ok (u.setPpu u.ppu.incrementV) := by
  show (s.setPpu { s.ppu with lastWrite := d }).writePpuData d = _
  rw [State.writePpuData]
  show (s.setPpu { s.ppu with lastWrite := d }).ppuWrite s.ppu.v.toNat d >>= _ = _
  rw [h]
  rfl

/-- Settles O46: the three regions of the PPU bus, read and written, and the increment. -/
theorem dataPort : Obligations.DataPort := by
  unfold Obligations.DataPort
  intro s d addr k hk port b a next
  have read : memRead port s = .ok s.readPpuData := memRead_mirror s (r := 7) rfl (by decide) hk
  have write : memWrite port d s = s.ppuRegWrite 7 d := memWrite_mirror d s (r := 7) rfl (by decide) hk
  rw [read, write]
  refine ⟨fun h hm => ?_, ppuRead_vram s, ppuRead_palette s, fun h => ?_, fun h => ?_, fun h hc => ?_, fun h hc => ?_,
    fun h1 h2 => ?_, fun h => ?_⟩
  · rw [ppuRead_chr s h, chrRead_unlocked hm]
  · rw [State.readPpuData]
    simp only [if_pos (show s.ppu.v.toNat % 0x4000 < 0x3F00 from h), incrementV_eq]
    rfl
  · rw [State.readPpuData]
    simp only [if_neg (show ¬ s.ppu.v.toNat % 0x4000 < 0x3F00 by omega), incrementV_eq]
    rfl
  · have hchr : (s.setPpu { s.ppu with lastWrite := d }).ppuWrite s.ppu.v.toNat d = .ok
        ((s.setPpu { s.ppu with lastWrite := d }).setCart
          { s.cart with chr := s.cart.chr.write (s.cart.chrOffset a) d }) := by
      rw [State.ppuWrite]
      simp only [if_pos (show s.ppu.v.toNat % 0x4000 < 0x2000 from h), Cart.chrWrite, State.setPpu, hc]
      rfl
    rw [ppuRegWrite_data hchr, incrementV_eq]
    rfl
  · refine ⟨{ (s.setPpu { s.ppu with lastWrite := d }) with fault := some (.readOnlyMemory (BitVec.ofNat 16 a)) },
      ?_, rfl, rfl⟩
    have hrom : (s.setPpu { s.ppu with lastWrite := d }).ppuWrite s.ppu.v.toNat d =
        .error ((s.setPpu { s.ppu with lastWrite := d }).raise (.readOnlyMemory (BitVec.ofNat 16 a))) := by
      rw [State.ppuWrite]
      simp only [if_pos (show s.ppu.v.toNat % 0x4000 < 0x2000 from h), Cart.chrWrite, State.setPpu, hc]
      rfl
    show (s.setPpu { s.ppu with lastWrite := d }).writePpuData d = _
    rw [State.writePpuData]
    show (s.setPpu { s.ppu with lastWrite := d }).ppuWrite s.ppu.v.toNat d >>= _ = _
    rw [hrom]
    rfl
  · have hv : (s.setPpu { s.ppu with lastWrite := d }).ppuWrite s.ppu.v.toNat d = .ok
        (s.setPpu { s.ppu with lastWrite := d, vram := s.ppu.vram.write (s.cart.vramIndex a) d }) := by
      rw [State.ppuWrite]
      simp only [if_neg (show ¬ s.ppu.v.toNat % 0x4000 < 0x2000 by omega), if_pos (show s.ppu.v.toNat % 0x4000 < 0x3F00 from h2)]
      rfl
    rw [ppuRegWrite_data hv, incrementV_eq]
    rfl
  · have hp : (s.setPpu { s.ppu with lastWrite := d }).ppuWrite s.ppu.v.toNat d = .ok
        (s.setPpu { s.ppu with lastWrite := d, palette := s.ppu.palette.write (paletteIndex a) d }) := by
      rw [State.ppuWrite]
      simp only [if_neg (show ¬ s.ppu.v.toNat % 0x4000 < 0x2000 by omega),
        if_neg (show ¬ s.ppu.v.toNat % 0x4000 < 0x3F00 by omega)]
      rfl
    rw [ppuRegWrite_data hp, incrementV_eq]
    rfl

/-! ## `$2003`, `$2004` and the palette -/

/-- The palette entry of index `i` of any copy of the 32 bytes (R107). -/
theorem paletteIndex_eq {i : Nat} (k : Nat) (hi : i < 32) :
    paletteIndex (0x3F00 + 32 * k + i) = if i % 4 = 0 then i % 16 else i := by
  unfold paletteIndex
  simp only [show (0x3F00 + 32 * k + i - 0x3F00) % 32 = i by omega]
  split <;> split <;> omega

theorem ppuRegWrite_oamAddr (s : State) (d : Byte) :
    s.ppuRegWrite 3 d = .ok (s.setPpu { s.ppu with lastWrite := d, oamAddr := d }) := rfl

theorem ppuRegWrite_oamData (s : State) (d : Byte) :
    s.ppuRegWrite 4 d = .ok (s.setPpu { s.ppu with
      lastWrite := d, oam := s.ppu.oam.write s.ppu.oamAddr.toNat d, oamAddr := s.ppu.oamAddr + 1 }) := rfl

/-- Settles O47: OAM and palette are memories that hold what was written. -/
theorem oamAndPaletteHoldWrites : Obligations.OamAndPaletteHoldWrites := by
  unfold Obligations.OamAndPaletteHoldWrites
  intro s hs
  obtain ⟨-, -, ⟨-, -, -, hoam, -, hpal, -⟩, -⟩ := hs
  refine ⟨fun addr d j k l m hj hk hl hm => ?_, fun i j k l v hi hj hk hl => ?_⟩
  · have held (n : Nat) : (s.ppu.oam.write addr.toNat d).read n = if n = addr.toNat then d else s.ppu.oam.read n :=
      Memory.read_write d hoam _ n
    have select (t : State) {k : Nat} (hk : k < 1024) :=
      (memWrite_mirror (n := 0x2003) addr t (r := 3) rfl (by decide) hk).trans (ppuRegWrite_oamAddr t addr)
    have store (t : State) {k : Nat} (hk : k < 1024) :=
      (memWrite_mirror (n := 0x2004) d t (r := 4) rfl (by decide) hk).trans (ppuRegWrite_oamData t d)
    refine ⟨_, _, _, select s hj, store _ hk, rfl, select _ hl, ?_, fun n hn => (held n).trans (if_neg hn), rfl, rfl⟩
    rw [memRead_mirror _ (r := 4) rfl (by decide) hm]
    refine congrArg Except.ok (Prod.ext ?_ rfl)
    exact (held addr.toNat).trans (if_pos rfl)
  · have haddr {n i : Nat} (hn : n < 8) (hi : i < 32) : (0x3F00 + 32 * n + i) % 0x4000 = 0x3F00 + 32 * n + i := by omega
    refine ⟨s.setPpu { s.ppu with palette := s.ppu.palette.write (paletteIndex (0x3F00 + 32 * k + i)) v }, ?_, ?_⟩
    · rw [State.ppuWrite]
      simp only [haddr hk hi, if_neg (show ¬ 0x3F00 + 32 * k + i < 0x2000 by omega),
        if_neg (show ¬ 0x3F00 + 32 * k + i < 0x3F00 by omega)]
    · have hrange : 0x3F00 ≤ (0x3F00 + 32 * l + j) % 0x4000 := by omega
      rw [ppuRead_palette _ hrange, ppuRead_palette _ hrange, haddr hl hj]
      refine (Memory.read_write v hpal _ _).trans ?_
      rw [paletteIndex_eq k hi, paletteIndex_eq l hj]
      simp only [eq_comm]

end Sys2Proof.Machine
end

section
/-! The raster (spec/61_ppu.md section 3): the position after a dot, after the dots of a step, and the frame loop. -/

namespace Sys2Proof.Machine

open Sys2Proof

variable {s t : State}

/-! ## What a dot leaves of the PPU -/

/-- `u` without what rendering a dot can change. -/
def Ppu.unrendered (u : Ppu) : Ppu :=
  { u with
    v := 0, spriteCount := 0, sprites := Vector.replicate 8 ⟨0, 0, 0, 0⟩, spriteIndex := Vector.replicate 8 0, tileShift := 0
    ntByte := 0, atBits := 0, patLow := 0, patHigh := 0, spriteOverflow := false, spriteZeroHit := false, framebuffer := [] }

theorem scrollStep_unrendered (u : Ppu) (line cyc : Nat) : (u.scrollStep line cyc).unrendered = u.unrendered := by
  unfold Ppu.scrollStep
  simp only []
  repeat' split
  all_goals rfl

theorem spriteStep_unrendered (u : Ppu) (line cyc : Nat) : (u.spriteStep line cyc).unrendered = u.unrendered := by
  unfold Ppu.spriteStep
  split
  · split
    · obtain ⟨c, sp, ix, ov, -, he⟩ := evaluateFrom_spec line 64 u.oamAddr.toNat 0 0 u (by omega)
      rw [Ppu.evaluateSprites, he]
      rfl
    · rfl
  · rfl

theorem fetchStep_unrendered (s : State) (cyc : Nat) : (s.fetchStep cyc).ppu.unrendered = s.ppu.unrendered := by
  unfold State.fetchStep
  split <;> rfl

/-- A dot changes the PPU only, and there only what `Ppu.unrendered` leaves out. -/
theorem renderDot_unrendered (s : State) (line cyc : Nat) :
    ∃ u, s.renderDot line cyc = s.setPpu u ∧ u.unrendered = s.ppu.unrendered := by
  obtain ⟨u, hu⟩ := renderDot_setPpu s line cyc
  refine ⟨u, hu, ?_⟩
  have hppu : u = (s.renderDot line cyc).ppu := by rw [hu]; rfl
  rw [hppu]
  unfold State.renderDot
  simp only []
  refine (spriteStep_unrendered _ _ _).trans ((scrollStep_unrendered _ _ _).trans ?_)
  split
  · refine (fetchStep_unrendered _ _).trans ?_
    split <;> rfl
  · split <;> rfl

/-- The position and parity, which only `Tick()` moves. -/
def Ppu.raster (u : Ppu) : Nat × Nat × Bool := (u.scanline, u.cycle, u.f)

theorem nmiChange_raster (s : State) : s.nmiChange.ppu.raster = s.ppu.raster := by
  rw [nmiChange_ppu]
  rfl

theorem nmiChange_lastFrame (s : State) : s.nmiChange.lastFrame = s.lastFrame := by
  unfold State.nmiChange
  simp only []
  split <;> rfl

theorem vblankStep_set (s : State) : s.vblankStep 241 1 = (s.setPpu { s.ppu with vblank := true }).nmiChange := rfl

theorem vblankStep_clear (s : State) : s.vblankStep 261 1 =
    (s.setPpu { s.ppu with vblank := false, spriteOverflow := false, spriteZeroHit := false }).nmiChange := rfl

theorem vblankStep_other (s : State) {line cyc : Nat} (h1 : ¬ (line = 241 ∧ cyc = 1)) (h2 : ¬ (line = 261 ∧ cyc = 1)) :
    s.vblankStep line cyc = s := by
  rw [State.vblankStep, if_neg h1, if_neg h2]

theorem vblankStep_raster (s : State) (line cyc : Nat) :
    (s.vblankStep line cyc).ppu.raster = s.ppu.raster ∧ (s.vblankStep line cyc).lastFrame = s.lastFrame := by
  by_cases h1 : line = 241 ∧ cyc = 1
  · obtain ⟨rfl, rfl⟩ := h1
    rw [vblankStep_set]
    exact ⟨nmiChange_raster _, nmiChange_lastFrame _⟩
  by_cases h2 : line = 261 ∧ cyc = 1
  · obtain ⟨rfl, rfl⟩ := h2
    rw [vblankStep_clear]
    exact ⟨nmiChange_raster _, nmiChange_lastFrame _⟩
  · rw [vblankStep_other s h1 h2]
    exact ⟨rfl, rfl⟩

/-- A PPU step moves the position as `Tick()` does. -/
theorem ppuStep_raster (s : State) : s.ppuStep.ppu.raster = s.tick.ppu.raster ∧ s.ppuStep.lastFrame = s.tick.lastFrame := by
  unfold State.ppuStep
  simp only []
  obtain ⟨hr, hl⟩ := vblankStep_raster (if s.tick.ppu.renderingEnabled then s.tick.renderDot s.tick.ppu.scanline s.tick.ppu.cycle
    else s.tick) s.tick.ppu.scanline s.tick.ppu.cycle
  rw [hr, hl]
  split
  · obtain ⟨u, hu, hk⟩ := renderDot_unrendered s.tick s.tick.ppu.scanline s.tick.ppu.cycle
    have hkept := congrArg Ppu.raster hk
    rw [hu]
    exact ⟨hkept, rfl⟩
  · exact ⟨rfl, rfl⟩

/-! ## The position -/

/-- The number of a position in the frame (R34). -/
def Ppu.position (u : Ppu) : Nat := 341 * u.scanline + u.cycle

/-- A position of the frame. -/
def Ppu.OnScreen (u : Ppu) : Prop := u.scanline ≤ 261 ∧ u.cycle ≤ 340

theorem skipsDot_iff {u : Ppu} (h : u.OnScreen) :
    u.skipsDot = ((u.mask.showBg || u.mask.showSprites) && u.f && decide (u.position = 89340)) := by
  obtain ⟨hs, hc⟩ := h
  have hpos : u.position = 89340 ↔ u.scanline = 261 ∧ u.cycle = 339 := by
    unfold Ppu.position
    omega
  rw [Ppu.skipsDot, Ppu.renderingEnabled, Bool.and_assoc, ← Bool.decide_and, decide_eq_decide.mpr hpos]

/-- One dot (R521 to R523): either the next position with the parity kept, or position 0 with the parity flipped and the frame
buffer handed over. -/
theorem tick_cases (h : s.ppu.OnScreen) :
    (s.ppu.skipsDot = false ∧ s.ppu.position ≠ 89341 ∧ s.tick.ppu.OnScreen ∧ s.tick.ppu.position = s.ppu.position + 1 ∧
      s.tick.ppu.f = s.ppu.f ∧ s.tick.lastFrame = s.lastFrame) ∨
    ((s.ppu.skipsDot = true ∨ s.ppu.position = 89341) ∧ s.tick.ppu.OnScreen ∧ s.tick.ppu.position = 0 ∧
      s.tick.ppu.f = !s.ppu.f ∧ s.tick.lastFrame = some s.ppu.framebuffer) := by
  obtain ⟨hs, hc⟩ := h
  unfold State.tick Ppu.OnScreen Ppu.position
  cases hk : s.ppu.skipsDot with
  | true => exact .inr ⟨.inl rfl, ⟨Nat.zero_le _, Nat.zero_le _⟩, rfl, rfl, rfl⟩
  | false =>
    rw [if_neg Bool.false_ne_true]
    split
    · split
      · refine .inr ⟨.inr (by omega), ⟨Nat.zero_le _, Nat.zero_le _⟩, rfl, rfl, rfl⟩
      · refine .inl ⟨rfl, by omega, ⟨?_, Nat.zero_le _⟩, ?_, rfl, rfl⟩
        · show s.ppu.scanline + 1 ≤ 261
          omega
        · show 341 * (s.ppu.scanline + 1) + 0 = _
          omega
    · refine .inl ⟨rfl, by omega, ⟨hs, ?_⟩, rfl, rfl, rfl⟩
      show s.ppu.cycle + 1 ≤ 340
      omega

/-- `tick_cases` for the whole PPU step. -/
theorem ppuStep_cases (h : s.ppu.OnScreen) :
    (s.ppu.skipsDot = false ∧ s.ppu.position ≠ 89341 ∧ s.ppuStep.ppu.OnScreen ∧
      s.ppuStep.ppu.position = s.ppu.position + 1 ∧ s.ppuStep.ppu.f = s.ppu.f ∧ s.ppuStep.lastFrame = s.lastFrame) ∨
    ((s.ppu.skipsDot = true ∨ s.ppu.position = 89341) ∧ s.ppuStep.ppu.OnScreen ∧ s.ppuStep.ppu.position = 0 ∧
      s.ppuStep.ppu.f = !s.ppu.f ∧ s.ppuStep.lastFrame = some s.ppu.framebuffer) := by
  obtain ⟨hr, hl⟩ := ppuStep_raster s
  have hscan : s.ppuStep.ppu.scanline = s.tick.ppu.scanline := congrArg (·.1) hr
  have hcyc : s.ppuStep.ppu.cycle = s.tick.ppu.cycle := congrArg (·.2.1) hr
  have hf : s.ppuStep.ppu.f = s.tick.ppu.f := congrArg (·.2.2) hr
  have hpos : s.ppuStep.ppu.position = s.tick.ppu.position := by rw [Ppu.position, hscan, hcyc]; rfl
  rw [hl, hf, hpos, Ppu.OnScreen, hscan, hcyc]
  exact tick_cases h

theorem position_lt {u : Ppu} (h : u.OnScreen) : u.position < 89342 := by
  obtain ⟨hs, hc⟩ := h
  unfold Ppu.position
  omega

theorem position_of_skipsDot {u : Ppu} (h : u.skipsDot = true) : u.position = 89340 := by
  unfold Ppu.skipsDot at h
  simp only [Bool.and_eq_true, decide_eq_true_eq] at h
  unfold Ppu.position
  omega

/-! ## The dots of a step -/

theorem triggerIrq_ppu (s : State) : s.triggerIrq.ppu = s.ppu := by
  unfold State.triggerIrq
  split <;> rfl

theorem mapperStep_ppu (s : State) : s.mapperStep.ppu = s.ppu := by
  unfold State.mapperStep
  split
  · split
    · simp only []
      split
      · exact triggerIrq_ppu _
      · rfl
    · rfl
  · rfl

/-- Dots that do not reach the end of the frame: the position counts them, the parity stays. -/
theorem devices_quiet : ∀ (n : Nat) {s : State}, s.ppu.OnScreen → s.ppu.position + n ≤ 89340 →
    (State.devices n s).ppu.OnScreen ∧ (State.devices n s).ppu.f = s.ppu.f := by
  intro n
  induction n with
  | zero => exact fun h _ => ⟨h, rfl⟩
  | succ n ih =>
    intro s h hn
    obtain ⟨-, -, hon, hpos, hf, -⟩ | ⟨hend, -⟩ := ppuStep_cases h
    · rw [← mapperStep_ppu] at hon hpos hf
      obtain ⟨hon', hf'⟩ := ih hon (by omega)
      exact ⟨hon', hf'.trans hf⟩
    · obtain hskip | hlast := hend
      · have := position_of_skipsDot hskip
        omega
      · omega

/-- The dots of less than a frame: they count the position up and keep the parity, or pass the end of the frame once. -/
theorem devices_position : ∀ (n : Nat) {s : State}, s.ppu.OnScreen → n ≤ 89341 →
    (State.devices n s).ppu.OnScreen ∧
      (((State.devices n s).ppu.f = s.ppu.f ∧ (State.devices n s).ppu.position = s.ppu.position + n) ∨
        (State.devices n s).ppu.f = !s.ppu.f) := by
  intro n
  induction n with
  | zero => exact fun h _ => ⟨h, .inl ⟨rfl, rfl⟩⟩
  | succ n ih =>
    intro s h hn
    obtain ⟨-, -, hon, hpos, hf, -⟩ | ⟨-, hon, hpos, hf, -⟩ := ppuStep_cases h
    · rw [← mapperStep_ppu] at hon hpos hf
      obtain ⟨hon', hend⟩ := ih hon (by omega)
      rw [hf, hpos] at hend
      exact ⟨hon', hend.imp_left fun ⟨hf', hpos'⟩ => ⟨hf', hpos'.trans (by omega)⟩⟩
    · rw [← mapperStep_ppu] at hon hpos hf
      obtain ⟨hon', hf'⟩ := devices_quiet n hon (by omega)
      exact ⟨hon', .inr (hf'.trans hf)⟩

/-! ## The cycles of a step -/

theorem row_cycles_bounds {i : Instr} (hi : i.cls ≠ .illegal) : 2 ≤ i.row.cycles ∧ i.row.cycles ≤ 8 := by
  have rows : ∀ op, (opcodeRow op).cls ≠ .illegal →
      2 ≤ (encodingOf (opcodeRow op)).cycles ∧ (encodingOf (opcodeRow op)).cycles ≤ 8 := by decide
  have h := rows i.opcode
  rw [cls_opcodeRow, encodingOf_opcodeRow] at h
  exact h hi

theorem handlerOf_branchers {m : Mnemonic} (h : m ∈ branchers) : ∃ cond, handlerOf m = branch cond := by
  simp only [branchers, List.mem_cons, List.not_mem_nil, or_false] at h
  obtain rfl | rfl | rfl | rfl | rfl | rfl | rfl | rfl := h
  · exact ⟨fun p => !p.c, rfl⟩
  · exact ⟨fun p => p.c, rfl⟩
  · exact ⟨fun p => p.z, rfl⟩
  · exact ⟨fun p => !p.z, rfl⟩
  · exact ⟨fun p => p.n, rfl⟩
  · exact ⟨fun p => !p.n, rfl⟩
  · exact ⟨fun p => !p.v, rfl⟩
  · exact ⟨fun p => p.v, rfl⟩

theorem branch_cycles {cond : Flags → Bool} {o : Operand} {r : Resolved} (h : branch cond o r s = .ok t) :
    s.cpu.cycles ≤ t.cpu.cycles ∧ t.cpu.cycles ≤ s.cpu.cycles + 2 := by
  unfold branch at h
  split at h
  · cases h
    show s.cpu.cycles ≤ s.cpu.cycles + _ ∧ s.cpu.cycles + _ ≤ s.cpu.cycles + 2
    split <;> omega
  · cases h
    omega

/-- The cost of an instruction: its row's cycles, one for a crossed page, two for a taken branch (R155, R285). -/
theorem exec_cycles {i : Instr} (h : exec i s = .next t) :
    s.cpu.cycles + 2 ≤ t.cpu.cycles ∧ t.cpu.cycles ≤ s.cpu.cycles + 11 := by
  have hcls : i.cls ≠ .illegal := by
    intro hc
    have hw := wellFormed_of_next h
    rw [wellFormed_false (.inl hc)] at hw
    cases hw
  have hrow := row_cycles_bounds hcls
  have hadv : s.cpu.cycles + i.row.cycles ≤ (s.advanced i).cpu.cycles ∧
      (s.advanced i).cpu.cycles ≤ s.cpu.cycles + i.row.cycles + 1 := by
    unfold State.advanced
    simp only []
    split <;> omega
  by_cases hb : i.mnemonic ∈ branchers
  · have hj : i.mnemonic ≠ .jmp := by
      intro hc
      rw [hc] at hb
      revert hb
      decide
    have hh := handlerOf_of_next h hj
    obtain ⟨cond, hcond⟩ := handlerOf_branchers hb
    rw [hcond] at hh
    have := branch_cycles hh
    omega
  · have := (touches_of_next h).cycles hb
    omega

/-- A step that goes on is some CPU work that leaves the raster, then at least three dots and less than a hundred (R700). -/
theorem step_dots (h : step s = .next t) :
    ∃ u n, t = State.devices n u ∧ 3 ≤ n ∧ n < 100 ∧ u.ppu.raster = s.ppu.raster := by
  cases hf : s.fault with
  | some r =>
    rw [step_of_fault hf] at h
    cases h
  | none =>
    rcases Nat.eq_zero_or_pos s.cpu.idle with hi | hi
    · cases hp : pollAndFetch s with
      | error f =>
        rw [step_of_pollAndFetch_error hf hi hp] at h
        cases h
      | ok p =>
        obtain ⟨i, v⟩ := p
        obtain ⟨w, hpoll, hread⟩ := (pollAndFetch_post s).of_ok hp
        rw [step_of_pollAndFetch hf hi hp] at h
        cases he : exec i v with
        | fault f =>
          rw [he] at h
          cases h
        | refused r => exact absurd he (exec_ne_refused i v r)
        | next u =>
          rw [he] at h
          have hcycles := exec_cycles he
          have hfixed := (touches_of_next he).fixed
          have hlater := hpoll.later
          have hsoon := hpoll.soon
          rw [hread.cpu] at hcycles
          refine ⟨u, 3 * (u.cpu.cycles - s.cpu.cycles), (Host.Outcome.next.inj h).symm, by omega, by omega, ?_⟩
          have hscan : u.ppu.scanline = v.ppu.scanline := congrArg Fixed.scanline hfixed
          have hcyc : u.ppu.cycle = v.ppu.cycle := congrArg Fixed.cycle hfixed
          have hpar : u.ppu.f = v.ppu.f := congrArg Fixed.parity hfixed
          rw [Ppu.raster, hscan, hcyc, hpar, hread.scanline, hread.cycle, hread.parity, hpoll.ppu]
          rfl
    · rw [step_idle hf hi] at h
      exact ⟨_, 3, (Host.Outcome.next.inj h).symm, by omega, by omega, rfl⟩

/-- A step keeps the position on the screen; it moves it by at least three dots, or it flips the parity. -/
theorem step_position (hs : s.ppu.OnScreen) (h : step s = .next t) : t.ppu.OnScreen ∧
    ((t.ppu.f = s.ppu.f ∧ s.ppu.position + 3 ≤ t.ppu.position) ∨ t.ppu.f = !s.ppu.f) := by
  obtain ⟨u, n, rfl, hlo, hhi, hraster⟩ := step_dots h
  have hscan : u.ppu.scanline = s.ppu.scanline := congrArg (·.1) hraster
  have hcyc : u.ppu.cycle = s.ppu.cycle := congrArg (·.2.1) hraster
  have hpar : u.ppu.f = s.ppu.f := congrArg (·.2.2) hraster
  have hpos : u.ppu.position = s.ppu.position := by rw [Ppu.position, hscan, hcyc]; rfl
  have hon : u.ppu.OnScreen := by rw [Ppu.OnScreen, hscan, hcyc]; exact hs
  obtain ⟨hon', hend⟩ := devices_position n hon (by omega)
  rw [hpar, hpos] at hend
  exact ⟨hon', hend.imp_left fun ⟨hf, hp⟩ => ⟨hf, by omega⟩⟩

/-! ## The frame loop -/

theorem step_ne_refused (s : State) (r : Refusal) : step s ≠ .refused r := by
  cases hf : s.fault with
  | some k =>
    rw [step_of_fault hf]
    exact nofun
  | none => exact (step_recorded hf).cases.2.2 r

/-- With enough steps to reach the end of the frame, the loop stops at a fault or with the parity flipped. -/
theorem stepUntil_flips : ∀ (n : Nat) {s : State}, s.ppu.OnScreen → 89342 ≤ s.ppu.position + 3 * n →
    (∃ f, stepUntil s.ppu.f n s = .fault f) ∨
      ∃ t k, stepUntil s.ppu.f n s = .next t ∧ t.ppu.f = !s.ppu.f ∧ k ≤ n ∧ Host.Core.run Sys2Proof.core k s = .next t := by
  intro n
  induction n with
  | zero =>
    intro s hs hn
    have := position_lt hs
    omega
  | succ n ih =>
    intro s hs hn
    rw [stepUntil]
    cases h : step s with
    | fault f => exact .inl ⟨f, rfl⟩
    | refused r => exact absurd h (step_ne_refused s r)
    | next t =>
      simp only []
      obtain ⟨hon, ⟨hf, hpos⟩ | hf⟩ := step_position hs h
      · rw [if_pos hf, ← hf]
        refine (ih hon (by omega)).imp_right ?_
        rintro ⟨u, k, hu, hpar, hk, hrun⟩
        exact ⟨u, k + 1, hu, hpar, by omega, (run_succ h k).trans hrun⟩
      · rw [if_neg (by rw [hf]; cases s.ppu.f <;> decide)]
        exact .inr ⟨t, 1, rfl, hf, by omega, run_succ h 0⟩

/-- Settles O48: `ppuStep_cases` for one dot, `stepUntil_flips` for the frame. -/
theorem rasterAdvance : Obligations.RasterAdvance := by
  unfold Obligations.RasterAdvance
  refine ⟨fun s hscan hcyc => ?_, fun s hs => ?_⟩
  · have hon : s.ppu.OnScreen := ⟨hscan, hcyc⟩
    have hlt := position_lt hon
    have hskips := skipsDot_iff hon
    intro t position skips
    have hskip : skips = s.ppu.skipsDot := hskips.symm
    rw [hskip]
    show t.ppu.scanline ≤ 261 ∧ t.ppu.cycle ≤ 340 ∧
      t.ppu.position = (if s.ppu.skipsDot then 0 else (s.ppu.position + 1) % 89342) ∧
      (t.ppu.position = 0 → t.ppu.f = !s.ppu.f ∧ t.lastFrame = some s.ppu.framebuffer) ∧
      (t.ppu.position ≠ 0 → t.ppu.f = s.ppu.f ∧ t.lastFrame = s.lastFrame)
    obtain ⟨hno, hlast, ht, hpos, hkeep⟩ | ⟨hend, ht, hpos, hflip⟩ := ppuStep_cases hon
    · refine ⟨ht.1, ht.2, ?_, fun h => ?_, fun _ => hkeep⟩
      · rw [hno, if_neg Bool.false_ne_true, hpos, Nat.mod_eq_of_lt (by omega)]
      · rw [hpos] at h
        omega
    · refine ⟨ht.1, ht.2, ?_, fun _ => hflip, fun h => absurd hpos h⟩
      rw [hpos]
      split
      · rfl
      · next hn =>
        rw [hend.resolve_left hn]
  · obtain ⟨-, -, ⟨hon, -⟩, -⟩ := hs
    exact stepUntil_flips frameSteps hon (by show 89342 ≤ _ + 3 * 29781; omega)

end Sys2Proof.Machine
end

section
/-! VBlank, sprite evaluation and pixel output (spec/61_ppu.md sections 3, 5, 6 and 7). -/

namespace Sys2Proof.Machine

open Sys2Proof

variable {s t : State}

/-! ## VBlank -/

theorem nmiChange_cpu (h : (s.ppu.vblank && s.ppu.ctrl.nmiEnable && !s.ppu.nmiLine) = false) : s.nmiChange.cpu = s.cpu := by
  unfold State.nmiChange
  simp only [h]
  rfl

theorem nmiChange_edge (h : (s.ppu.vblank && s.ppu.ctrl.nmiEnable && !s.ppu.nmiLine) = true) :
    s.nmiChange.cpu = { s.cpu with nmiPending := true, nmiDelay := 1 } := by
  unfold State.nmiChange
  simp only [h]
  rfl

theorem tick_cpu (s : State) : s.tick.cpu = s.cpu := by
  unfold State.tick
  repeat' split
  all_goals rfl

theorem tick_vblank (s : State) : s.tick.ppu.vblank = s.ppu.vblank ∧ s.tick.ppu.ctrl = s.ppu.ctrl ∧
    s.tick.ppu.nmiLine = s.ppu.nmiLine := by
  unfold State.tick
  repeat' split
  all_goals exact ⟨rfl, rfl, rfl⟩

/-- A PPU step ends in the VBlank logic, before which neither the CPU nor what that logic reads has changed. -/
theorem ppuStep_vblankStep (s : State) : ∃ r : State, s.ppuStep = r.vblankStep r.ppu.scanline r.ppu.cycle ∧ r.cpu = s.cpu ∧
    r.ppu.vblank = s.ppu.vblank ∧ r.ppu.ctrl = s.ppu.ctrl ∧ r.ppu.nmiLine = s.ppu.nmiLine := by
  obtain ⟨hv, hc, hn⟩ := tick_vblank s
  unfold State.ppuStep
  simp only []
  split
  · obtain ⟨u, hu, hk⟩ := renderDot_unrendered s.tick s.tick.ppu.scanline s.tick.ppu.cycle
    have hscan : u.scanline = s.tick.ppu.scanline := congrArg (·.scanline) hk
    have hcyc : u.cycle = s.tick.ppu.cycle := congrArg (·.cycle) hk
    have hvblank := congrArg Ppu.vblank hk
    have hctrl := congrArg Ppu.ctrl hk
    have hline := congrArg Ppu.nmiLine hk
    refine ⟨s.tick.setPpu u, ?_, tick_cpu s, Eq.trans hvblank hv, Eq.trans hctrl hc, Eq.trans hline hn⟩
    rw [hu, ← hscan, ← hcyc]
    rfl
  · exact ⟨s.tick, rfl, tick_cpu s, hv, hc, hn⟩

/-- Settles O49: the VBlank logic at its two positions, with the edge detector in agreement before it. -/
theorem vblankTiming : Obligations.VblankTiming := by
  unfold Obligations.VblankTiming
  intro s hs
  obtain ⟨-, -, ⟨-, -, hagree, -⟩, -⟩ := hs
  obtain ⟨r, hstep, hcpu, hv, hc, hn⟩ := ppuStep_vblankStep s
  rw [← hv, ← hc, ← hn] at hagree
  rw [hstep, ← hv, ← hc, ← hcpu]
  intro t at'
  have hraster : t.ppu.raster = r.ppu.raster := (vblankStep_raster r _ _).1
  have hscan : t.ppu.scanline = r.ppu.scanline := congrArg (·.1) hraster
  have hcyc : t.ppu.cycle = r.ppu.cycle := congrArg (·.2.1) hraster
  have hat {line cyc : Nat} : at' line cyc ↔ r.ppu.scanline = line ∧ r.ppu.cycle = cyc := by
    show t.ppu.scanline = line ∧ t.ppu.cycle = cyc ↔ _
    rw [hscan, hcyc]
  have set (h : at' 241 1) : t = (r.setPpu { r.ppu with vblank := true }).nmiChange := by
    obtain ⟨h1, h2⟩ := hat.mp h
    show r.vblankStep _ _ = _
    rw [h1, h2, vblankStep_set]
  have clear (h : at' 261 1) :
      t = (r.setPpu { r.ppu with vblank := false, spriteOverflow := false, spriteZeroHit := false }).nmiChange := by
    obtain ⟨h1, h2⟩ := hat.mp h
    show r.vblankStep _ _ = _
    rw [h1, h2, vblankStep_clear]
  have other (h1 : ¬ at' 241 1) (h2 : ¬ at' 261 1) : t = r :=
    vblankStep_other r (fun h => h1 (hat.mpr h)) fun h => h2 (hat.mpr h)
  refine ⟨fun h => ⟨?_, fun hoff hen => ?_⟩, fun h => ?_, fun h1 h2 => ?_, fun hno => ?_⟩
  · rw [set h, nmiChange_ppu]
    rfl
  · rw [hoff, Bool.false_and] at hagree
    have hedge : ((r.setPpu { r.ppu with vblank := true }).ppu.vblank &&
        (r.setPpu { r.ppu with vblank := true }).ppu.ctrl.nmiEnable &&
        !(r.setPpu { r.ppu with vblank := true }).ppu.nmiLine) = true := by
      simp only [State.setPpu, hen, hagree, Bool.true_and, Bool.not_false]
    rw [set h, nmiChange_edge hedge]
    exact ⟨rfl, rfl⟩
  · rw [clear h, nmiChange_ppu]
    exact ⟨rfl, rfl, rfl⟩
  · rw [other h1 h2]
  · by_cases h1 : at' 241 1
    · rw [set h1]
      apply nmiChange_cpu
      simp only [State.setPpu, hagree, Bool.true_and]
      cases hvb : r.ppu.vblank with
      | true => simp
      | false =>
        cases hen : r.ppu.ctrl.nmiEnable with
        | false => rfl
        | true => exact absurd ⟨h1, hvb, hen⟩ hno
    · by_cases h2 : at' 261 1
      · rw [clear h2]
        exact nmiChange_cpu rfl
      · rw [other h1 h2]

/-! ## Sprite evaluation -/

/-- Whether entry `k` of the scan lies in OAM and intersects the scanline. -/
def Ppu.onLine (u : Ppu) (line k : Nat) : Bool :=
  decide (u.oamAddr.toNat + 4 * k + 3 ≤ 255) && spriteOnLine line u.spriteHeight (u.oam.read (u.oamAddr.toNat + 4 * k))

/-- What the scan of the entries `ks` leaves in the buffer, `n` sprites found before them. -/
structure Evaluated (u r : Ppu) (found : List Nat) (n : Nat) : Prop where
  count : r.spriteCount = min 8 (n + found.length)
  overflow : r.spriteOverflow = (u.spriteOverflow || decide (8 < n + found.length))
  before : ∀ j (hj : j < 8), j < n → r.spriteIndex[j] = u.spriteIndex[j] ∧ r.sprites[j] = u.sprites[j]
  after : ∀ j (hj : j < 8) k, n ≤ j → found[j - n]? = some k →
    r.spriteIndex[j] = k ∧ r.sprites[j] = u.oamSprite (u.oamAddr.toNat + 4 * k)

theorem Evaluated.nil {u : Ppu} {n : Nat} (hn : n ≤ 8) : Evaluated u { u with spriteCount := n } [] n where
  count := by simp [hn]
  overflow := by simp [Nat.not_lt.mpr hn]
  before _ _ _ := ⟨rfl, rfl⟩
  after _ _ _ _ h := by simp at h

/-- The scan from entry `k`, by its recursion (R540). -/
theorem evaluateFrom_evaluated (line : Nat) : ∀ (fuel k n : Nat) (u : Ppu), n ≤ 8 →
    Evaluated u (evaluateFrom line fuel (u.oamAddr.toNat + 4 * k) k n u) ((List.range' k fuel).filter (u.onLine line)) n := by
  intro fuel
  induction fuel with
  | zero => exact fun k n u hn => .nil hn
  | succ fuel ih =>
    intro k n u hn
    have hnext : u.oamAddr.toNat + 4 * k + 4 = u.oamAddr.toNat + 4 * (k + 1) := by omega
    rw [evaluateFrom, List.range'_succ]
    by_cases hin : u.oamAddr.toNat + 4 * k + 3 ≤ 255
    · rw [if_pos hin]
      by_cases hline : spriteOnLine line u.spriteHeight (u.oam.read (u.oamAddr.toNat + 4 * k)) = true
      · have hk : u.onLine line k = true := by rw [Ppu.onLine, decide_eq_true hin, hline]; rfl
        rw [if_pos hline, List.filter_cons_of_pos hk]
        by_cases h8 : n = 8
        · rw [if_pos h8]
          subst h8
          exact {
            count := by simp
            overflow := by simp
            before := fun _ _ _ => ⟨rfl, rfl⟩
            after := fun j hj _ h _ => absurd hj (Nat.not_lt.mpr h) }
        · rw [if_neg h8, hnext]
          have h := ih (k + 1) (n + 1) { u with
            sprites := u.sprites.setIfInBounds n (u.oamSprite (u.oamAddr.toNat + 4 * k))
            spriteIndex := u.spriteIndex.setIfInBounds n k } (by omega)
          have kept {α : Type} (w : Vector α 8) (x : α) {j : Nat} (hj : j < 8) (hne : n ≠ j) :
              (w.setIfInBounds n x)[j] = w[j] := by rw [Vector.getElem_setIfInBounds hj, if_neg hne]
          have stored {α : Type} (w : Vector α 8) (x : α) (hj : n < 8) : (w.setIfInBounds n x)[n] = x := by
            rw [Vector.getElem_setIfInBounds hj, if_pos rfl]
          refine ⟨?_, ?_, fun j hj hlt => ?_, fun j hj k' hle hfound => ?_⟩
          · rw [h.count, List.length_cons, Nat.add_right_comm, Nat.add_assoc]
            rfl
          · rw [h.overflow, List.length_cons, Nat.add_right_comm, Nat.add_assoc]
            rfl
          · obtain ⟨hindex, hsprite⟩ := h.before j hj (by omega)
            exact ⟨hindex.trans (kept _ _ hj (by omega)), hsprite.trans (kept _ _ hj (by omega))⟩
          · obtain rfl | hlt := Nat.eq_or_lt_of_le hle
            · obtain ⟨hindex, hsprite⟩ := h.before n hj (by omega)
              rw [Nat.sub_self, List.getElem?_cons_zero, Option.some.injEq] at hfound
              subst hfound
              exact ⟨hindex.trans (stored _ _ hj), hsprite.trans (stored _ _ hj)⟩
            · have hpred : j - n = j - (n + 1) + 1 := by omega
              rw [hpred, List.getElem?_cons_succ] at hfound
              exact h.after j hj k' hlt hfound
      · have hk : ¬ u.onLine line k = true := by rw [Ppu.onLine, decide_eq_true hin]; simpa using hline
        rw [if_neg hline, List.filter_cons_of_neg hk, hnext]
        exact ih (k + 1) n u hn
    · rw [if_neg hin]
      have hnone : (k :: List.range' (k + 1) fuel).filter (u.onLine line) = [] := by
        rw [← List.range'_succ, List.filter_eq_nil_iff]
        intro j hj
        have := List.mem_range'.mp hj
        simp only [Ppu.onLine, Bool.and_eq_true, decide_eq_true_eq]
        omega
      rw [hnone]
      exact .nil hn

theorem spriteOnLine_eq (u : Ppu) (line : Nat) (y : Byte) : spriteOnLine line u.spriteHeight y =
    (decide (y.toNat ≤ line) && decide (line ≤ y.toNat + if u.ctrl.sprite16 then 15 else 7)) := by
  unfold spriteOnLine Ppu.spriteHeight
  by_cases h : y.toNat ≤ line
  · rw [decide_eq_true h, Bool.true_and, Bool.true_and]
    exact decide_eq_decide.mpr (by omega)
  · rw [decide_eq_false h, Bool.false_and, Bool.false_and]

/-- Settles O50: the scan from entry 0. -/
theorem spriteEvaluation : Obligations.SpriteEvaluation := by
  unfold Obligations.SpriteEvaluation
  intro u line h base onLine found r
  have hscan := evaluateFrom_evaluated line 64 0 0 u (by omega)
  have hfound : (List.range' 0 64).filter (u.onLine line) = found := by
    rw [← List.range_eq_range']
    refine congrArg (List.filter · _) (funext fun k => ?_)
    show _ = (_ && _ && _)
    rw [Ppu.onLine, spriteOnLine_eq, Bool.and_assoc]
  have hr : evaluateFrom line 64 (u.oamAddr.toNat + 4 * 0) 0 0 u = r := rfl
  rw [hfound, hr] at hscan
  refine ⟨?_, ?_, fun j k hk => hscan.after j j.isLt k (Nat.zero_le _) hk, ?_⟩
  · rw [hscan.count, Nat.zero_add]
  · rw [hscan.overflow, Nat.zero_add]
  · obtain ⟨c, sp, ix, ov, -, he⟩ := evaluateFrom_spec line 64 u.oamAddr.toNat 0 0 u (by omega)
    show ({ u.evaluateSprites line with spriteCount := _, spriteOverflow := _, sprites := _, spriteIndex := _ } : Ppu) = u
    rw [Ppu.evaluateSprites, he]

end Sys2Proof.Machine
end

section
/-! Pixel output (spec/61_ppu.md sections 5 and 6): the two sources of a pixel as numbers, and what `RenderPixel()` stores. -/

namespace Sys2Proof.Machine

open Sys2Proof

/-! ## The sources of a pixel -/

theorem getLsbD_toNat {w : Nat} (x : BitVec w) (b : Nat) : (x.getLsbD b).toNat = x.toNat / 2 ^ b % 2 := by
  rw [BitVec.getLsbD, Nat.toNat_testBit]

/-- The background nibble at `fineX` (R544). -/
theorem backgroundPixel_toNat (u : Ppu) (x : Nat) : (u.backgroundPixel x).toNat =
    if u.mask.showBg = false ∨ (x < 8 ∧ u.mask.showBgLeft = false) then 0 else u.tileShift.toNat / 16 ^ u.fineX.toNat % 16 := by
  unfold Ppu.backgroundPixel
  by_cases h1 : u.mask.showBg = false
  · rw [if_pos h1, if_pos (.inl h1)]
    rfl
  rw [if_neg h1]
  by_cases h2 : x < 8 ∧ u.mask.showBgLeft = false
  · rw [if_pos h2, if_pos (.inr h2)]
    rfl
  rewrite [if_neg h2, if_neg (not_or.mpr ⟨h1, h2⟩), extract_low_toNat, BitVec.toNat_ushiftRight, Nat.shiftRight_eq_div_pow,
    Nat.pow_mul]
  rfl

/-- The two colour bits of row `r` and bit `b` of a pattern at `addr`. -/
def State.planes (s : State) (addr b : Nat) : Nat :=
  2 * ((s.ppuRead (addr + 8)).toNat / 2 ^ b % 2) + (s.ppuRead addr).toNat / 2 ^ b % 2

/-- The address of row `r` of a sprite's pattern (R543). -/
def Ppu.spriteAddr (u : Ppu) (p : Sprite) (r : Nat) : Nat :=
  if u.ctrl.sprite16 then 4096 * (p.tile.toNat % 2) + 16 * (p.tile.toNat / 2 * 2 + r / 8) + r % 8
  else 4096 * u.ctrl.spriteTable.toNat + 16 * p.tile.toNat + r

/-- The row of the pattern at row `row` of the sprite (R543). -/
def Ppu.spriteRow (u : Ppu) (p : Sprite) (row : Nat) : Nat := if p.attr.getLsbD 7 then u.spriteHeight - row else row

theorem tableBase_eq (t : Bool) : tableBase t = 4096 * t.toNat := by
  cases t <;> rfl

theorem spritePatternPixel_toNat (s : State) (p : Sprite) {row : Nat} (off : Nat) (hrow : row ≤ s.ppu.spriteHeight) :
    (s.spritePatternPixel p row off).toNat =
      s.planes (s.ppu.spriteAddr p (s.ppu.spriteRow p row)) (if p.attr.getLsbD 6 then off else 7 - off) := by
  have hheight : s.ppu.spriteHeight ≤ 15 := by
    unfold Ppu.spriteHeight
    split <;> omega
  have hr : s.ppu.spriteRow p row ≤ 15 := by
    unfold Ppu.spriteRow
    split <;> omega
  have haddr : (if s.ppu.ctrl.sprite16 then tableBase (p.tile.getLsbD 0) +
        (if s.ppu.spriteRow p row > 7 then 16 * (p.tile.toNat / 2 * 2 + 1) + (s.ppu.spriteRow p row - 8)
        else 16 * (p.tile.toNat / 2 * 2) + s.ppu.spriteRow p row)
      else tableBase s.ppu.ctrl.spriteTable + 16 * p.tile.toNat + s.ppu.spriteRow p row) =
      s.ppu.spriteAddr p (s.ppu.spriteRow p row) := by
    unfold Ppu.spriteAddr
    rw [tableBase_eq, tableBase_eq, getLsbD_toNat, Nat.pow_zero, Nat.div_one]
    split
    · split <;> omega
    · rfl
  rw [State.planes, ← haddr, ← getLsbD_toNat, ← getLsbD_toNat]
  unfold State.spritePatternPixel
  simp only [append_toNat, BitVec.toNat_ofBool]
  rfl

/-- The colour of buffer entry `k` at line `y`, column `x`: 0 where it has no opaque pixel there (R542). -/
def State.entryColour (s : State) (y x k : Nat) : Nat :=
  let p := s.ppu.spriteAt k
  if p.x.toNat ≤ x ∧ x ≤ p.x.toNat + 7 ∧ p.y.toNat + 1 ≤ y ∧ y ≤ p.y.toNat + 1 + s.ppu.spriteHeight then
    s.planes (s.ppu.spriteAddr p (s.ppu.spriteRow p (y - 1 - p.y.toNat)))
      (if p.attr.getLsbD 6 then x - p.x.toNat else 7 - (x - p.x.toNat))
  else 0

theorem spriteEntryPixel_of_colour {s : State} {y x k : Nat} :
    (s.entryColour y x k = 0 → s.spriteEntryPixel y x k = none) ∧
    (s.entryColour y x k ≠ 0 → ∃ c, s.spriteEntryPixel y x k = some c ∧
      c.toNat = 4 * ((s.ppu.spriteAt k).attr.toNat % 4) + s.entryColour y x k) := by
  unfold State.entryColour State.spriteEntryPixel
  simp only []
  generalize s.ppu.spriteAt k = p
  have hcond : (p.x.toNat ≤ x ∧ x - p.x.toNat ≤ 7 ∧ 1 ≤ y ∧ spriteOnLine (y - 1) s.ppu.spriteHeight p.y = true) ↔
      (p.x.toNat ≤ x ∧ x ≤ p.x.toNat + 7 ∧ p.y.toNat + 1 ≤ y ∧ y ≤ p.y.toNat + 1 + s.ppu.spriteHeight) := by
    simp only [spriteOnLine, Bool.and_eq_true, decide_eq_true_eq]
    omega
  rw [ite_of_iff hcond]
  by_cases h : p.x.toNat ≤ x ∧ x ≤ p.x.toNat + 7 ∧ p.y.toNat + 1 ≤ y ∧ y ≤ p.y.toNat + 1 + s.ppu.spriteHeight
  · rw [if_pos h, if_pos h, ← spritePatternPixel_toNat s p _ (by omega)]
    generalize s.spritePatternPixel p (y - 1 - p.y.toNat) (x - p.x.toNat) = colour
    have hzero : colour = 0 ↔ colour.toNat = 0 := ⟨fun h => by rw [h]; rfl, fun h => BitVec.eq_of_toNat_eq h⟩
    refine ⟨fun h0 => if_pos (hzero.mpr h0), fun h0 => ⟨_, if_neg (fun hc => h0 (hzero.mp hc)), ?_⟩⟩
    rewrite [append_toNat, extract_low_toNat]
    rfl
  · rw [if_neg h, if_neg h]
    exact ⟨fun _ => rfl, fun h0 => absurd rfl h0⟩

/-- The first entry of the buffer for which `f` answers. -/
theorem findSome?_range {α : Type} (f : Nat → Option α) {n k : Nat} {a : α} (hk : k < n) (hsome : f k = some a)
    (hnone : ∀ j, j < k → f j = none) : (List.range n).findSome? f = some a := by
  rw [List.findSome?_eq_some_iff]
  refine ⟨List.range k, k, List.range' (k + 1) (n - k - 1), ?_, hsome, fun j hj => hnone j (List.mem_range.mp hj)⟩
  have happend := List.range'_append_1 (s := 0) (m := k) (n := n - k - 1 + 1)
  rw [Nat.zero_add, show k + (n - k - 1 + 1) = n by omega] at happend
  rw [List.range_eq_range', List.range_eq_range', ← List.range'_succ, happend]

/-- The left column or all sprites are masked off (R542). -/
def State.SpritesHidden (s : State) (x : Nat) : Prop :=
  s.ppu.mask.showSprites = false ∨ (x < 8 ∧ s.ppu.mask.showSpritesLeft = false)

theorem spritePixel_hidden {s : State} {x : Nat} (y : Nat) (h : s.SpritesHidden x) : s.spritePixel y x = (0, 0) := by
  unfold State.spritePixel
  by_cases h1 : s.ppu.mask.showSprites = false
  · rw [if_pos h1]
  · rw [if_neg h1, if_pos (h.resolve_left h1)]

theorem spritePixel_transparent {s : State} {y x : Nat} (h : ∀ k, k < s.ppu.spriteCount → s.entryColour y x k = 0) :
    s.spritePixel y x = (0, 0) := by
  unfold State.spritePixel
  split
  · rfl
  split
  · rfl
  · rw [List.findSome?_eq_none_iff.mpr fun k hk => ?_]
    rw [spriteEntryPixel_of_colour.1 (h k (List.mem_range.mp hk))]
    rfl

theorem spritePixel_first {s : State} {y x k : Nat} (hidden : ¬ s.SpritesHidden x) (hk : k < s.ppu.spriteCount)
    (hcolour : s.entryColour y x k ≠ 0) (hbefore : ∀ j, j < k → s.entryColour y x j = 0) :
    (s.spritePixel y x).1 = k ∧
      (s.spritePixel y x).2.toNat = 4 * ((s.ppu.spriteAt k).attr.toNat % 4) + s.entryColour y x k := by
  obtain ⟨c, hc, hnat⟩ := spriteEntryPixel_of_colour.2 hcolour
  have hfirst := findSome?_range (f := fun k => (s.spriteEntryPixel y x k).map fun c => (k, c)) hk
    (by simp only [hc]; rfl) fun j hj => by simp only [spriteEntryPixel_of_colour.1 (hbefore j hj)]; rfl
  unfold State.spritePixel
  rw [if_neg fun h => hidden (.inl h), if_neg fun h => hidden (.inr h), hfirst]
  exact ⟨rfl, hnat⟩

/-! ## Pixel output -/

theorem pixelColour_eq (bg sp : BitVec 4) (behind : Bool) : pixelColour bg sp behind =
    if bg.toNat % 4 = 0 ∧ sp.toNat % 4 = 0 then 0
    else if bg.toNat % 4 = 0 then 16 + sp.toNat
    else if sp.toNat % 4 = 0 then bg.toNat
    else if behind then bg.toNat else 16 + sp.toNat := by
  unfold pixelColour
  by_cases hb : bg.toNat % 4 = 0 <;> by_cases hs : sp.toNat % 4 = 0 <;> simp [hb, hs]

/-- Settles O52: the pixel that is stored, and its two sources. -/
theorem pixelOutput : Obligations.PixelOutput := by
  unfold Obligations.PixelOutput
  intro s y x hs hy hx
  obtain ⟨-, -, ⟨-, -, -, -, -, -, hwf, -⟩, -⟩ := hs
  intro bg sp behind colour t
  have hcolour : pixelColour (s.ppu.backgroundPixel x) sp.2 behind = colour := pixelColour_eq _ _ _
  have held (k : Nat) : t.ppu.framebuffer.read k = if k = 256 * y + x then s.ppuRead (0x3F00 + colour) &&& 0x3F
      else s.ppu.framebuffer.read k := by
    rw [← hcolour]
    exact Memory.read_write _ hwf _ k
  refine ⟨(held _).trans (if_pos rfl), fun k hk => (held k).trans (if_neg hk), ?_, rfl, backgroundPixel_toNat s.ppu x, ?_⟩
  · show (s.ppu.spriteZeroHit || ((bg % 4 != 0 && sp.2.toNat % 4 != 0) && (s.ppu.spriteIndex[sp.1]?.getD 0 == 0))) = true ↔ _
    simp [and_assoc]
  · intro tall h colourOf colour hidden
    refine ⟨fun h => ?_, fun k => spritePixel_first⟩
    obtain h | h := h
    · exact spritePixel_hidden y h
    · exact spritePixel_transparent h

end Sys2Proof.Machine
end

section
/-! The background pipeline (spec/61_ppu.md sections 3 and 4): the scroll arithmetic on the fields of `v`, the tile store, the
addresses of the fetches, and the schedule of a dot. -/

namespace Sys2Proof.Machine

open Sys2Proof

/-! ## The fields of `v` -/

/-- The scroll register with these fields: fine Y, nametable Y and X, coarse Y and X (R35). -/
def scrollOf (fy : BitVec 3) (ny nx : BitVec 1) (cy cx : BitVec 5) : BitVec 15 := fy ++ ny ++ nx ++ cy ++ cx

theorem scrollOf_fields (fy : BitVec 3) (ny nx : BitVec 1) (cy cx : BitVec 5) :
    (scrollOf fy ny nx cy cx).toNat % 32 = cx.toNat ∧ (scrollOf fy ny nx cy cx).toNat / 1024 % 2 = nx.toNat ∧
    (scrollOf fy ny nx cy cx).toNat / 32 % 32 = cy.toNat ∧ (scrollOf fy ny nx cy cx).toNat / 2048 % 2 = ny.toNat ∧
    (scrollOf fy ny nx cy cx).toNat / 4096 = fy.toNat := by
  have h : (scrollOf fy ny nx cy cx).toNat = 32 * (32 * (2 * (2 * fy.toNat + ny.toNat) + nx.toNat) + cy.toNat) + cx.toNat := by
    unfold scrollOf
    rewrite [append_toNat, append_toNat, append_toNat, append_toNat]
    rfl
  have hny := ny.isLt
  have hnx := nx.isLt
  have hcy := cy.isLt
  have hcx := cx.isLt
  rw [h]
  refine ⟨?_, ?_, ?_, ?_, ?_⟩ <;> omega

/-- Every `v` is made of its fields. -/
theorem scrollOf_extract (v : BitVec 15) : scrollOf (v.extractLsb' 12 3) (v.extractLsb' 11 1) (v.extractLsb' 10 1)
    (v.extractLsb' 5 5) (v.extractLsb' 0 5) = v := by
  apply BitVec.eq_of_getLsbD_eq
  intro j hj
  unfold scrollOf
  simp only [BitVec.getLsbD_append]
  revert j
  simp only [Nat.forall_lt_succ_right]
  simp

variable (fy fy' : BitVec 3) (ny ny' nx nx' : BitVec 1) (cy cy' cx cx' : BitVec 5)

/-- `CopyX()` takes coarse X and nametable X (R538). -/
theorem copyX_scrollOf : copyX (scrollOf fy ny nx cy cx) (scrollOf fy' ny' nx' cy' cx') = scrollOf fy ny nx' cy cx' := by
  apply BitVec.eq_of_getLsbD_eq
  intro j hj
  unfold copyX scrollOf
  simp only [BitVec.getLsbD_append, BitVec.getLsbD_or, BitVec.getLsbD_and]
  revert j
  simp only [Nat.forall_lt_succ_right]
  simp

/-- `CopyY()` takes the other three fields (R539). -/
theorem copyY_scrollOf : copyY (scrollOf fy ny nx cy cx) (scrollOf fy' ny' nx' cy' cx') = scrollOf fy' ny' nx cy' cx := by
  apply BitVec.eq_of_getLsbD_eq
  intro j hj
  unfold copyY scrollOf
  simp only [BitVec.getLsbD_append, BitVec.getLsbD_or, BitVec.getLsbD_and]
  revert j
  simp only [Nat.forall_lt_succ_right]
  simp

/-- `IncrementX()` at the last column (R536). -/
theorem incrementX_scrollOf_last : (scrollOf fy ny nx cy cx &&& 0x7FE0) ^^^ 0x0400 = scrollOf fy ny (~~~nx) cy 0 := by
  apply BitVec.eq_of_getLsbD_eq
  intro j hj
  unfold scrollOf
  simp only [BitVec.getLsbD_append, BitVec.getLsbD_xor, BitVec.getLsbD_and]
  revert j
  simp only [Nat.forall_lt_succ_right]
  simp

theorem toNat_scrollOf : (scrollOf fy ny nx cy cx).toNat =
    4096 * fy.toNat + 2048 * ny.toNat + 1024 * nx.toNat + 32 * cy.toNat + cx.toNat := by
  unfold scrollOf
  simp only [append_toNat]
  omega

theorem coarseX_mask : scrollOf fy ny nx cy cx &&& 0x001F = cx.zeroExtend 15 := by
  apply BitVec.eq_of_getLsbD_eq
  intro j hj
  unfold scrollOf
  simp only [BitVec.getLsbD_append, BitVec.getLsbD_and]
  revert j
  simp only [Nat.forall_lt_succ_right]
  simp

/-- `IncrementX()` on the fields (R536). -/
theorem incrementX_scrollOf : incrementX (scrollOf fy ny nx cy cx) =
    if cx = 31 then scrollOf fy ny (~~~nx) cy 0 else scrollOf fy ny nx cy (cx + 1) := by
  have hmask : scrollOf fy ny nx cy cx &&& 0x001F = 31 ↔ cx = 31 := by
    rw [coarseX_mask]
    bv_omega
  unfold incrementX
  by_cases hcx : cx = 31
  · rw [if_pos (hmask.mpr hcx), if_pos hcx, incrementX_scrollOf_last]
  · rw [if_neg (fun h => hcx (hmask.mp h)), if_neg hcx]
    have hv := toNat_scrollOf fy ny nx cy cx
    have hw := toNat_scrollOf fy ny nx cy (cx + 1)
    bv_omega

theorem fineY_mask : scrollOf fy ny nx cy cx &&& 0x7000 = scrollOf fy 0 0 0 0 := by
  apply BitVec.eq_of_getLsbD_eq
  intro j hj
  unfold scrollOf
  simp only [BitVec.getLsbD_append, BitVec.getLsbD_and]
  revert j
  simp only [Nat.forall_lt_succ_right]
  simp

theorem coarseY_shift : ((scrollOf fy ny nx cy cx &&& 0x0FFF) >>> 5) &&& 0x1F = cy.zeroExtend 15 := by
  apply BitVec.eq_of_getLsbD_eq
  intro j hj
  unfold scrollOf
  simp only [BitVec.getLsbD_append, BitVec.getLsbD_and, BitVec.getLsbD_ushiftRight]
  revert j
  simp only [Nat.forall_lt_succ_right]
  simp

/-- `IncrementY()` at the last row of the nametable (R537). -/
theorem incrementY_scrollOf_last :
    ((scrollOf fy ny nx cy cx &&& 0x0FFF) ^^^ 0x0800) &&& 0x7C1F = scrollOf 0 (~~~ny) nx 0 cx := by
  apply BitVec.eq_of_getLsbD_eq
  intro j hj
  unfold scrollOf
  simp only [BitVec.getLsbD_append, BitVec.getLsbD_and, BitVec.getLsbD_xor]
  revert j
  simp only [Nat.forall_lt_succ_right]
  simp

/-- `IncrementY()` with another coarse Y put in (R537). -/
theorem incrementY_scrollOf_put :
    ((scrollOf fy ny nx cy cx &&& 0x0FFF) &&& 0x7C1F) ||| (cy'.zeroExtend 15 <<< 5) = scrollOf 0 ny nx cy' cx := by
  apply BitVec.eq_of_getLsbD_eq
  intro j hj
  unfold scrollOf
  simp only [BitVec.getLsbD_append, BitVec.getLsbD_and, BitVec.getLsbD_or, BitVec.getLsbD_shiftLeft]
  revert j
  simp only [Nat.forall_lt_succ_right]
  simp

/-- `IncrementY()` on the fields (R537). -/
theorem incrementY_scrollOf : incrementY (scrollOf fy ny nx cy cx) =
    if fy ≠ 7 then scrollOf (fy + 1) ny nx cy cx
    else if cy = 29 then scrollOf 0 (~~~ny) nx 0 cx else scrollOf 0 ny nx (cy + 1) cx := by
  have hmask : scrollOf fy ny nx cy cx &&& 0x7000 ≠ 0x7000 ↔ fy ≠ 7 := by
    rw [fineY_mask]
    have h := toNat_scrollOf fy 0 0 0 0
    bv_omega
  unfold incrementY
  by_cases hfy : fy ≠ 7
  · rw [if_pos (hmask.mpr hfy), if_pos hfy]
    have hv := toNat_scrollOf fy ny nx cy cx
    have hw := toNat_scrollOf (fy + 1) ny nx cy cx
    bv_omega
  · rw [if_neg (fun h => hfy (hmask.mp h)), if_neg hfy]
    simp only [coarseY_shift]
    by_cases h29 : cy = 29
    · rw [if_pos (by rw [h29]; rfl), if_pos h29, incrementY_scrollOf_last]
    rw [if_neg (by bv_omega), if_neg h29]
    by_cases h31 : cy = 31
    · have hput := incrementY_scrollOf_put fy ny nx cy 0 cx
      rw [if_pos (by rw [h31]; rfl), h31, show (31 : BitVec 5) + 1 = 0 from rfl, ← h31, ← hput]
      simp
    · have hnext : cy.zeroExtend 15 + 1 = (cy + 1).zeroExtend 15 := by bv_omega
      rw [if_neg (by bv_omega), hnext]
      exact incrementY_scrollOf_put fy ny nx cy (cy + 1) cx

theorem not_toNat_one (b : BitVec 1) : (~~~b).toNat = 1 - b.toNat := by
  rw [BitVec.toNat_not]

/-- The scroll arithmetic of the statement. -/
theorem scroll_fields (v t : BitVec 15) :
    let cx (w : BitVec 15) : Nat := w.toNat % 32
    let cy (w : BitVec 15) : Nat := w.toNat / 32 % 32
    let nx (w : BitVec 15) : Nat := w.toNat / 1024 % 2
    let ny (w : BitVec 15) : Nat := w.toNat / 2048 % 2
    let fy (w : BitVec 15) : Nat := w.toNat / 4096
    (let w := incrementX v
     cx w = (cx v + 1) % 32 ∧ nx w = (if cx v = 31 then 1 - nx v else nx v) ∧ cy w = cy v ∧ ny w = ny v ∧ fy w = fy v) ∧
    (let w := incrementY v
     fy w = (fy v + 1) % 8 ∧ cx w = cx v ∧ nx w = nx v ∧
     cy w = (if fy v < 7 then cy v else if cy v = 29 then 0 else (cy v + 1) % 32) ∧
     ny w = (if fy v = 7 ∧ cy v = 29 then 1 - ny v else ny v)) ∧
    copyY (copyX v t) t = t ∧
    (let w := copyX v t
     cx w = cx t ∧ nx w = nx t ∧ cy w = cy v ∧ ny w = ny v ∧ fy w = fy v) ∧
    (let w := copyY v t
     cx w = cx v ∧ nx w = nx v ∧ cy w = cy t ∧ ny w = ny t ∧ fy w = fy t) := by
  rw [← scrollOf_extract v, ← scrollOf_extract t]
  generalize v.extractLsb' 12 3 = fy
  generalize v.extractLsb' 11 1 = ny
  generalize v.extractLsb' 10 1 = nx
  generalize v.extractLsb' 5 5 = cy
  generalize v.extractLsb' 0 5 = cx
  generalize t.extractLsb' 12 3 = fy'
  generalize t.extractLsb' 11 1 = ny'
  generalize t.extractLsb' 10 1 = nx'
  generalize t.extractLsb' 5 5 = cy'
  generalize t.extractLsb' 0 5 = cx'
  obtain ⟨hcx, hnx, hcy, hny, hfy⟩ := scrollOf_fields fy ny nx cy cx
  obtain ⟨hcx', hnx', hcy', hny', hfy'⟩ := scrollOf_fields fy' ny' nx' cy' cx'
  simp only [hcx, hnx, hcy, hny, hfy, hcx', hnx', hcy', hny', hfy', copyX_scrollOf, copyY_scrollOf]
  refine ⟨?_, ?_, trivial, ?_, ?_⟩
  · rw [incrementX_scrollOf]
    by_cases h : cx = 31
    · obtain ⟨h1, h2, h3, h4, h5⟩ := scrollOf_fields fy ny (~~~nx) cy 0
      subst h
      rw [if_pos rfl, h1, h2, h3, h4, h5, not_toNat_one]
      exact ⟨rfl, rfl, rfl, rfl, rfl⟩
    · obtain ⟨h1, h2, h3, h4, h5⟩ := scrollOf_fields fy ny nx cy (cx + 1)
      have hne : cx.toNat ≠ 31 := by bv_omega
      rw [if_neg h, if_neg hne, h1, h2, h3, h4, h5, BitVec.toNat_add]
      exact ⟨rfl, rfl, rfl, rfl, rfl⟩
  · rw [incrementY_scrollOf]
    by_cases h7 : fy ≠ 7
    · obtain ⟨h1, h2, h3, h4, h5⟩ := scrollOf_fields (fy + 1) ny nx cy cx
      have hlt : fy.toNat < 7 := by bv_omega
      rw [if_pos h7, h1, h2, h3, h4, h5, BitVec.toNat_add, if_pos hlt, if_neg (by omega)]
      exact ⟨rfl, rfl, rfl, rfl, rfl⟩
    · have heq : fy.toNat = 7 := by bv_omega
      rw [if_neg h7, if_neg (show ¬ fy.toNat < 7 by omega)]
      by_cases h29 : cy = 29
      · obtain ⟨h1, h2, h3, h4, h5⟩ := scrollOf_fields 0 (~~~ny) nx 0 cx
        have heq' : cy.toNat = 29 := by rw [h29]; rfl
        rw [if_pos h29, h1, h2, h3, h4, h5, not_toNat_one, heq, heq', if_pos rfl, if_pos ⟨rfl, rfl⟩]
        exact ⟨rfl, rfl, rfl, rfl, rfl⟩
      · obtain ⟨h1, h2, h3, h4, h5⟩ := scrollOf_fields 0 ny nx (cy + 1) cx
        have hne : cy.toNat ≠ 29 := by bv_omega
        rw [if_neg h29, h1, h2, h3, h4, h5, BitVec.toNat_add, heq, if_neg hne, if_neg fun h => hne h.2]
        exact ⟨rfl, rfl, rfl, rfl, rfl⟩
  · exact scrollOf_fields fy ny nx' cy cx'
  · exact scrollOf_fields fy' ny' nx cy' cx

/-! ## The tile store -/

/-- Nibble `k` of a register. -/
def nibble {w : Nat} (x : BitVec w) (k : Nat) : Nat := x.toNat / 16 ^ k % 16

theorem nibble_append_zero {n : Nat} (x : BitVec n) (d : BitVec 4) : nibble (x ++ d) 0 = d.toNat := by
  rw [nibble, append_toNat, Nat.pow_zero, Nat.div_one]
  omega

theorem nibble_append_succ {n : Nat} (x : BitVec n) (d : BitVec 4) (k : Nat) : nibble (x ++ d) (k + 1) = nibble x k := by
  have hd := d.isLt
  have hstep : (2 ^ 4 * x.toNat + d.toNat) / 16 = x.toNat := by omega
  rw [nibble, append_toNat, Nat.pow_succ' (n := k), ← Nat.div_div_eq_div_mul, hstep]
  rfl

theorem nibble_self_zero (d : BitVec 4) : nibble d 0 = d.toNat := by
  rw [nibble, Nat.pow_zero, Nat.div_one]
  exact Nat.mod_eq_of_lt d.isLt

theorem nibble_tileData (u : Ppu) {i : Nat} (hi : i < 8) : nibble u.tileData i = (u.tileNibble i).toNat := by
  unfold Ppu.tileData
  obtain rfl | rfl | rfl | rfl | rfl | rfl | rfl | rfl := eq_of_lt_eight hi <;>
    simp only [nibble_append_zero, nibble_append_succ, nibble_self_zero]

theorem tileNibble_toNat (u : Ppu) (i : Nat) : (u.tileNibble i).toNat =
    4 * u.atBits.toNat + 2 * (u.patHigh.getLsbD (7 - i)).toNat + (u.patLow.getLsbD (7 - i)).toNat := by
  unfold Ppu.tileNibble
  simp only [append_toNat, BitVec.toNat_ofBool]
  omega

theorem storeTile_toNat (u : Ppu) : u.storeTile.tileShift.toNat = 16 ^ 8 * u.tileData.toNat + u.tileShift.toNat % 16 ^ 8 := by
  unfold Ppu.storeTile
  have hpow : 16 ^ 8 = 2 ^ 32 := by decide
  rw [append_toNat, extract_low_toNat, hpow]

theorem nibble_storeTile_high (u : Ppu) (i : Nat) : nibble u.storeTile.tileShift (8 + i) = nibble u.tileData i := by
  have hlow : u.tileShift.toNat % 16 ^ 8 < 16 ^ 8 := Nat.mod_lt _ (by decide)
  rw [nibble, storeTile_toNat, Nat.pow_add, ← Nat.div_div_eq_div_mul, Nat.mul_add_div (by decide), Nat.div_eq_of_lt hlow]
  rfl

theorem nibble_storeTile_low (u : Ppu) {i : Nat} (hi : i < 8) : nibble u.storeTile.tileShift i = nibble u.tileShift i := by
  rw [nibble, nibble, storeTile_toNat]
  obtain rfl | rfl | rfl | rfl | rfl | rfl | rfl | rfl := eq_of_lt_eight hi <;> omega

theorem repeat_shiftTiles (u : Ppu) : ∀ n, (Nat.repeat Ppu.shiftTiles n u).tileShift.toNat = u.tileShift.toNat / 16 ^ n
  | 0 => by rw [Nat.pow_zero, Nat.div_one]; rfl
  | n + 1 => by
    show ((Nat.repeat Ppu.shiftTiles n u).tileShift >>> 4).toNat = _
    rw [BitVec.toNat_ushiftRight, Nat.shiftRight_eq_div_pow, repeat_shiftTiles u n, Nat.div_div_eq_div_mul,
      Nat.pow_succ (m := n)]

/-! ## The fetches -/

theorem nametableAddr_toNat (v : BitVec 15) : ((0x2000 : BitVec 15) ||| (v &&& 0x0FFF)).toNat = 0x2000 + v.toNat % 4096 := by
  have h : (0x2000 : BitVec 15) ||| (v &&& 0x0FFF) = ((2 : BitVec 3) ++ v.extractLsb' 0 12 : BitVec (3 + 12)) := by
    apply BitVec.eq_of_getLsbD_eq
    intro j hj
    simp only [BitVec.getLsbD_append, BitVec.getLsbD_or, BitVec.getLsbD_and]
    revert j
    simp only [Nat.forall_lt_succ_right]
    simp
  have hv := congrArg BitVec.toNat h
  rw [append_toNat, extract_low_toNat] at hv
  exact hv

theorem attributeAddr_toNat (v : BitVec 15) : (attributeAddr v).toNat =
    0x23C0 + v.toNat / 1024 % 4 * 1024 + v.toNat / 128 % 8 * 8 + v.toNat / 4 % 8 := by
  have h : attributeAddr v = ((2 : BitVec 3) ++ v.extractLsb' 10 2 ++ (15 : BitVec 4) ++ v.extractLsb' 7 3 ++
      v.extractLsb' 2 3 : BitVec (3 + 2 + 4 + 3 + 3)) := by
    apply BitVec.eq_of_getLsbD_eq
    intro j hj
    unfold attributeAddr
    simp only [BitVec.getLsbD_append, BitVec.getLsbD_or, BitVec.getLsbD_and, BitVec.getLsbD_ushiftRight]
    revert j
    simp only [Nat.forall_lt_succ_right]
    simp
  rw [h]
  simp only [append_toNat, extract_toNat]
  have h2 : (2 : BitVec 3).toNat = 2 := rfl
  have h15 : (15 : BitVec 4).toNat = 15 := rfl
  omega

theorem attributeShift_eq (v : BitVec 15) : attributeShift v = 2 * (v.toNat / 64 % 2 * 2 + v.toNat / 2 % 2) := by
  have h : ((v >>> 4) &&& 4) ||| (v &&& 2) = ((0 : BitVec 12) ++ v.extractLsb' 6 1 ++ v.extractLsb' 1 1 ++ (0 : BitVec 1) :
      BitVec (12 + 1 + 1 + 1)) := by
    apply BitVec.eq_of_getLsbD_eq
    intro j hj
    simp only [BitVec.getLsbD_append, BitVec.getLsbD_or, BitVec.getLsbD_and, BitVec.getLsbD_ushiftRight]
    revert j
    simp only [Nat.forall_lt_succ_right]
    simp
  rw [attributeShift, h]
  simp only [append_toNat, extract_toNat]
  have h0 : (0 : BitVec 12).toNat = 0 := rfl
  have h1 : (0 : BitVec 1).toNat = 0 := rfl
  omega

theorem attributeBits_eq (b : Byte) (v : BitVec 15) : (b >>> attributeShift v).extractLsb' 0 2 =
    BitVec.ofNat 2 (b.toNat / 4 ^ (v.toNat / 64 % 2 * 2 + v.toNat / 2 % 2)) := by
  apply BitVec.eq_of_toNat_eq
  rw [extract_low_toNat, BitVec.toNat_ushiftRight, Nat.shiftRight_eq_div_pow, attributeShift_eq, Nat.pow_mul,
    BitVec.toNat_ofNat]

theorem patternAddr_eq (u : Ppu) : u.patternAddr = 4096 * u.ctrl.bgTable.toNat + 16 * u.ntByte.toNat + u.v.toNat / 4096 := by
  have hv := u.v.isLt
  rw [Ppu.patternAddr, tableBase_eq, extract_toNat]
  omega

/-! ## The schedule of a dot -/

theorem fetchStep_eq (s : State) (c : Nat) : s.fetchStep c =
    if c % 8 = 1 then s.fetchNametable else if c % 8 = 3 then s.fetchAttribute
    else if c % 8 = 5 then s.fetchPatternLow else if c % 8 = 7 then s.fetchPatternHigh
    else if c % 8 = 0 then s.setPpu s.ppu.storeTile else s := by
  have hc : c % 8 < 8 := Nat.mod_lt _ (by decide)
  unfold State.fetchStep
  generalize c % 8 = r at hc
  obtain rfl | rfl | rfl | rfl | rfl | rfl | rfl | rfl := eq_of_lt_eight hc <;> rfl

/-- One scroll update, under its condition. -/
def Ppu.onV (u : Ppu) (p : Prop) [Decidable p] (f : BitVec 15 → BitVec 15) : Ppu := if p then { u with v := f u.v } else u

theorem onV_t (u : Ppu) (p : Prop) [Decidable p] (f : BitVec 15 → BitVec 15) : (u.onV p f).t = u.t := by
  unfold Ppu.onV
  split <;> rfl

/-- The positions of a render line at which tiles are fetched (R501). -/
abbrev FetchDot (y c : Nat) : Prop := (y < 240 ∨ y = 261) ∧ ((1 ≤ c ∧ c ≤ 256) ∨ (321 ≤ c ∧ c ≤ 336))

end Sys2Proof.Machine
end

section
/-! The schedule of a dot (spec/61_ppu.md section 3), and with it the statement about the background pipeline. -/

namespace Sys2Proof.Machine

open Sys2Proof

/-! ## The conditions of the schedule, as propositions -/

theorem renderLine_iff (y : Nat) : renderLine y = true ↔ y < 240 ∨ y = 261 := by
  simp [renderLine, visibleLine, preLine]

theorem visibleDot_iff (y c : Nat) : (visibleLine y && visibleCycle c) = true ↔ y < 240 ∧ 1 ≤ c ∧ c ≤ 256 := by
  simp [visibleLine, visibleCycle]

theorem fetchCycle_iff (c : Nat) : fetchCycle c = true ↔ (1 ≤ c ∧ c ≤ 256) ∨ (321 ≤ c ∧ c ≤ 336) := by
  simp [fetchCycle, visibleCycle]

theorem fetchDot_iff (y c : Nat) : (renderLine y && fetchCycle c) = true ↔ FetchDot y c := by
  rw [Bool.and_eq_true, renderLine_iff, fetchCycle_iff]

theorem copyYDot_iff (y c : Nat) : (preLine y && (decide (280 ≤ c) && decide (c ≤ 304))) = true ↔ y = 261 ∧ 280 ≤ c ∧ c ≤ 304 := by
  simp [preLine]

/-! ## The scroll updates -/

theorem onV_congr (u : Ppu) {p q : Prop} [Decidable p] [Decidable q] (h : p ↔ q) (f : BitVec 15 → BitVec 15) :
    u.onV p f = u.onV q f := ite_of_iff h _ _

theorem onV_neg (u : Ppu) {p : Prop} [Decidable p] (h : ¬ p) (f : BitVec 15 → BitVec 15) : u.onV p f = u := if_neg h

/-- The four scroll updates, each under its condition, in R520's order. -/
theorem scrollStep_eq (u : Ppu) (y c : Nat) : u.scrollStep y c =
    (((u.onV (y = 261 ∧ 280 ≤ c ∧ c ≤ 304) (copyY · u.t)).onV (FetchDot y c ∧ c % 8 = 0) incrementX).onV
      ((y < 240 ∨ y = 261) ∧ c = 256) incrementY).onV ((y < 240 ∨ y = 261) ∧ c = 257) (copyX · u.t) := by
  have hpre : (if preLine y && (decide (280 ≤ c) && decide (c ≤ 304)) then { u with v := copyY u.v u.t } else u) =
      u.onV (y = 261 ∧ 280 ≤ c ∧ c ≤ 304) (copyY · u.t) := ite_of_iff (copyYDot_iff y c) _ _
  unfold Ppu.scrollStep
  simp only [hpre]
  by_cases hr : y < 240 ∨ y = 261
  · rw [if_pos ((renderLine_iff y).mpr hr)]
    have hfetch : (fetchCycle c && decide (c % 8 = 0)) = true ↔ FetchDot y c ∧ c % 8 = 0 := by
      rw [Bool.and_eq_true, fetchCycle_iff, decide_eq_true_eq]
      exact ⟨fun ⟨h1, h2⟩ => ⟨⟨hr, h1⟩, h2⟩, fun ⟨⟨_, h1⟩, h2⟩ => ⟨h1, h2⟩⟩
    rw [← onV_congr _ hfetch, onV_congr _ (and_iff_right hr), onV_congr _ (and_iff_right hr)]
    let before := ((u.onV (y = 261 ∧ 280 ≤ c ∧ c ≤ 304) (copyY · u.t)).onV
      ((fetchCycle c && decide (c % 8 = 0)) = true) incrementX).onV (c = 256) incrementY
    have ht : before.t = u.t := by
      show (Ppu.onV (Ppu.onV (Ppu.onV _ _ _) _ _) _ _).t = u.t
      rw [onV_t, onV_t, onV_t]
    refine Eq.trans (b := before.onV (c = 257) (copyX · before.t)) rfl ?_
    rw [ht]
  · have hno : ¬ (y = 261 ∧ 280 ≤ c ∧ c ≤ 304) := fun h => hr (.inr h.1)
    have hnofetch : ¬ (FetchDot y c ∧ c % 8 = 0) := fun h => hr h.1.1
    rw [if_neg (fun h => hr ((renderLine_iff y).mp h)), onV_neg _ hno, onV_neg _ hnofetch, onV_neg _ (fun h => hr h.1),
      onV_neg _ (fun h => hr h.1)]

/-! ## A dot -/

theorem setPpu_onV (s : State) (p : Prop) [Decidable p] (f : BitVec 15 → BitVec 15) :
    (if p then s.setPpu { s.ppu with v := f s.ppu.v } else s) = s.setPpu (s.ppu.onV p f) := by
  unfold Ppu.onV
  split <;> rfl

theorem setPpu_spriteStep (s : State) (y c : Nat) :
    (if c = 257 then (if y < 240 then s.setPpu (s.ppu.evaluateSprites y) else s.setPpu { s.ppu with spriteCount := 0 }) else s) =
      s.setPpu (s.ppu.spriteStep y c) := by
  have hline : visibleLine y = true ↔ y < 240 := decide_eq_true_iff
  unfold Ppu.spriteStep
  rw [ite_of_iff hline]
  split
  · split <;> rfl
  · rfl

theorem tick_mask (s : State) : s.tick.ppu.mask = s.ppu.mask := by
  unfold State.tick
  repeat' split
  all_goals rfl

theorem renderingEnabled_tick (s : State) :
    s.tick.ppu.renderingEnabled = true ↔ s.ppu.mask.showBg = true ∨ s.ppu.mask.showSprites = true := by
  rw [Ppu.renderingEnabled, tick_mask, Bool.or_eq_true]

/-- Settles O51: the fields of `v`, the nibbles of the shift register, the fetch addresses, and the schedule. -/
theorem backgroundPipeline : Obligations.BackgroundPipeline := by
  unfold Obligations.BackgroundPipeline
  refine ⟨scroll_fields, fun u i hi => ?_, fun s => ?_, fun s => ?_⟩
  · intro nib pixel
    have hpixel : nibble u.tileData i = pixel := (nibble_tileData u hi).trans (tileNibble_toNat u i)
    have hhigh : nibble u.storeTile.tileShift (8 + i) = pixel := (nibble_storeTile_high u i).trans hpixel
    refine ⟨hhigh, nibble_storeTile_low u hi, ?_⟩
    show (Nat.repeat Ppu.shiftTiles 8 u.storeTile).tileShift.toNat / 16 ^ i % 16 = pixel
    rw [repeat_shiftTiles, Nat.div_div_eq_div_mul, ← Nat.pow_add]
    exact hhigh
  · intro v row attrByte
    refine ⟨?_, ?_, ?_, ?_⟩
    · rw [State.fetchNametable, nametableAddr_toNat]
      rfl
    · rw [State.fetchAttribute, attributeAddr_toNat, attributeBits_eq]
      rfl
    · rw [State.fetchPatternLow, patternAddr_eq]
      rfl
    · rw [State.fetchPatternHigh, patternAddr_eq]
      rfl
  · intro u y c fetches pixel fetch onV scroll sprites
    have hpixel (t : State) : (if (visibleLine y && visibleCycle c) = true then t.renderPixel y (c - 1) else t) = pixel t :=
      ite_of_iff (visibleDot_iff y c) _ _
    have hfetch (t : State) : (if (renderLine y && fetchCycle c) = true then (t.setPpu t.ppu.shiftTiles).fetchStep c else t) =
        if fetches then fetch t else t := by
      rw [fetchStep_eq]
      exact ite_of_iff (fetchDot_iff y c) _ _
    have hscroll (t : State) : scroll t = t.setPpu (t.ppu.scrollStep y c) := by
      have hon (p : Prop) [Decidable p] (f : BitVec 15 → BitVec 15) (t : State) : onV p f t = t.setPpu (t.ppu.onV p f) :=
        setPpu_onV t p f
      rw [scrollStep_eq]
      simp only [scroll, hon]
      rfl
    have hsprites (t : State) : sprites t = t.setPpu (t.ppu.spriteStep y c) := setPpu_spriteStep t y c
    have hdot : u.renderDot y c = sprites (scroll (if fetches then fetch (pixel u) else pixel u)) := by
      rw [hsprites, hscroll, ← hpixel, ← hfetch]
      rfl
    rw [← hdot, ← ite_of_iff (renderingEnabled_tick s)]
    rfl

end Sys2Proof.Machine
end

section
/-! Mappers: every offset inside its array, and the windows of the variants without a serial protocol (spec/62_mappers.md
sections 1 and 2). -/

namespace Sys2Proof.Machine

open Sys2Proof

/-! ## Offsets inside their arrays -/

/-- Bank `b`, reduced modulo `n` banks of `z` bytes, ends inside them. -/
theorem reducedBank_lt {n z o : Nat} (b : Nat) (hn : 0 < n) (ho : o < z) : z * (b % n) + o < n * z := by
  have hb : b % n + 1 ≤ n := Nat.mod_lt b hn
  have hz : z * (b % n + 1) ≤ z * n := Nat.mul_le_mul_left z hb
  rw [Nat.mul_add, Nat.mul_comm z n] at hz
  omega

/-- A PRG offset lies inside `prgRom` (R47, R604). -/
theorem prgOffset_lt (k : Cart) (a : Word) (hn : 0 < k.image.prgRomBanks) :
    k.prgOffset a < k.image.prgRomBanks * 16384 := by
  have hlen : 0 < k.image.prgLen := Nat.mul_pos hn (by decide)
  have hmod (o : Nat) : o % k.image.prgLen < k.image.prgRomBanks * 16384 := Nat.mod_lt o hlen
  have h16 (b : Nat) {o : Nat} (ho : o < 16384) : prg16k k.image b o < k.image.prgRomBanks * 16384 := reducedBank_lt b hn ho
  have h8 (b : Nat) {o : Nat} (ho : o < 8192) : prg8k k.image b o < k.image.prgRomBanks * 16384 := by
    have hbanks : 2 * k.image.prgRomBanks * 8192 = k.image.prgRomBanks * 16384 := by omega
    rw [prg8k, ← hbanks]
    exact reducedBank_lt b (Nat.mul_pos (by decide) hn) ho
  have hword : a.toNat < 65536 := a.isLt
  unfold Cart.prgOffset
  split
  · exact hmod _
  · exact h16 _ (Nat.mod_lt _ (by decide))
  · simp only []
    split
    · exact h16 _ (by omega)
    · exact h16 _ (by omega)
  · exact hmod _
  · exact h8 _ (Nat.mod_lt _ (by decide))
  · exact hmod _
  · exact hmod _
  · exact hmod _
  · exact hmod _

theorem page_le_one (m : Mirroring) {table : Nat} (h : table < 4) : m.page table ≤ 1 := by
  cases m <;> simp only [Mirroring.page] <;> omega

/-- A nametable index is its page, then the place inside the table. -/
theorem vramIndex_page (k : Cart) (p : Nat) :
    k.vramIndex p / 0x400 = k.mirroring.page ((p - 0x2000) % 0x1000 / 0x400) ∧
    k.vramIndex p % 0x400 = (p - 0x2000) % 0x400 := by
  simp only [Cart.vramIndex]
  omega

/-- Settles O53: by the variant for the PRG offset, by the mirroring for the nametable page. -/
theorem offsetsInBounds : Obligations.OffsetsInBounds := by
  unfold Obligations.OffsetsInBounds
  intro k a p hn
  refine ⟨fun _ => prgOffset_lt k a hn, chrOffset_lt k, fun hlow _ => ?_⟩
  intro table
  have htable : table < 4 := by omega
  obtain ⟨hpage, hplace⟩ := vramIndex_page k p
  refine ⟨vramIndex_lt k p, by omega, hpage.trans ?_⟩
  change k.mirroring.page table = _
  cases k.mirroring with
  | horizontal => obtain h | h | h | h := eq_of_lt_four htable <;> rw [h] <;> rfl
  | vertical => obtain h | h | h | h := eq_of_lt_four htable <;> rw [h] <;> rfl
  | singleLower => rfl
  | singleUpper => rfl

/-! ## The variants without a serial protocol -/

/-- The fixed 32 KB window of NROM, CNROM and Mapper185 (R610, R625). -/
theorem mod_prgLen (m : CartImage) (o : Nat) : o % m.prgLen = o % (16384 * m.prgRomBanks) := by
  rw [CartImage.prgLen, Nat.mul_comm]

theorem prg32k_eq (m : CartImage) (bank o : Nat) : prg32k m bank o = (32768 * bank + o) % (16384 * m.prgRomBanks) :=
  mod_prgLen m _

theorem prgOffset_uxrom {k : Cart} {b : BitVec 4} (h : k.regs = .uxrom b) (a : Word) : k.prgOffset a =
    if a < 0xC000 then prg16k k.image b.toNat (a.toNat - 0x8000)
    else prg16k k.image (k.image.prgRomBanks - 1) (a.toNat - 0xC000) := by
  rw [Cart.prgOffset, h]
  exact ite_of_iff (BitVec.lt_def (x := a) (y := 0xC000)).symm _ _

/-- Settles O54: the fields that each register write keeps, as numbers. -/
theorem discreteMappers : Obligations.DiscreteMappers := by
  unfold Obligations.DiscreteMappers
  intro k w a d p ha hp o n chrLen after window32 chr8
  have hlow (len : Nat) : (d.extractLsb' 0 len).toNat = d.toNat % 2 ^ len := extract_low_toNat d len
  have hhigh (len : Nat) : (d.extractLsb' 4 len).toNat = d.toNat / 16 % 2 ^ len := extract_toNat d 4 len
  refine ⟨fun h => ?_, fun b h => ?_, fun b h => ?_, fun b c h => ?_, fun b c h => ?_, fun b h => ?_⟩
  · have hafter : after = k := by simp only [after, Cart.registerWrite, h]
    rw [hafter, Cart.prgOffset, Cart.chrOffset, h]
    exact ⟨rfl, mod_prgLen k.image o, rfl⟩
  · have hafter : after = { k with regs := .uxrom (d.extractLsb' 0 4) } := by simp only [after, Cart.registerWrite, h]
    rw [hafter]
    refine ⟨rfl, rfl, ?_⟩
    rw [prgOffset_uxrom rfl, hlow]
    rfl
  · have hafter : after = { k with regs := .cnrom (d.extractLsb' 0 2) } := by simp only [after, Cart.registerWrite, h]
    rw [hafter]
    refine ⟨?_, mod_prgLen k.image o, rfl⟩
    show chr8k k.image (d.extractLsb' 0 2).toNat p = _
    rw [hlow]
    rfl
  · have hafter : after = { k with regs := .gxrom (d.extractLsb' 4 2) (d.extractLsb' 0 2) } := by
      simp only [after, Cart.registerWrite, h]
    rw [hafter]
    refine ⟨?_, rfl, ?_⟩
    · show chr8k k.image (d.extractLsb' 0 2).toNat p = _
      rw [hlow]
      rfl
    · show prg32k k.image (d.extractLsb' 4 2).toNat o = _
      rw [hhigh]
      exact prg32k_eq ..
  · have hafter : after = { k with regs := .colorDream (d.extractLsb' 0 2) (d.extractLsb' 4 4),
                                   mirroring := singleScreen (d.getLsbD Config.cdMirrorBit.val) } := by
      simp only [after, Cart.registerWrite, h]
    rw [hafter]
    refine ⟨?_, ?_, rfl⟩
    · show chr8k k.image (d.extractLsb' 4 4).toNat p = _
      rw [hhigh, Nat.mod_eq_of_lt (by omega : d.toNat / 16 < 2 ^ 4)]
      rfl
    · show prg32k k.image (d.extractLsb' 0 2).toNat o = _
      rw [hlow]
      exact prg32k_eq ..
  · have hafter : after = { k with regs := .axrom (d.extractLsb' 0 3), mirroring := singleScreen (d.getLsbD 4) } := by
      simp only [after, Cart.registerWrite, h]
    rw [hafter]
    refine ⟨rfl, ?_, rfl⟩
    show prg32k k.image (d.extractLsb' 0 3).toNat o = _
    rw [hlow]
    exact prg32k_eq ..

end Sys2Proof.Machine
end

section
/-! MMC1's serial port (spec/62_mappers.md R646, R647). -/

namespace Sys2Proof.Machine

open Sys2Proof

/-! ## The shift register -/

/-- The shift register after one more bit. -/
def Mmc1.shiftIn (r : Mmc1) (d : Byte) : BitVec 5 := r.shift ||| ((d.extractLsb' 0 1).zeroExtend 5 <<< r.count)

/-- The registers after a write that only shifts. -/
def Mmc1.shifted (r : Mmc1) (d : Byte) : Mmc1 := { r with shift := r.shiftIn d, count := r.count + 1 }

/-- The shift register holds `n` bits, as a number `v`. -/
def Mmc1.Holds (r : Mmc1) (n v : Nat) : Prop := r.count = n ∧ r.shift.toNat = v

/-- Bit 0 of the byte lands above the bits already there. -/
theorem shiftIn_toNat {r : Mmc1} {n v : Nat} (d : Byte) (h : r.Holds n v) (hn : n < 5) (hv : v < 2 ^ n) :
    (r.shiftIn d).toNat = v + 2 ^ n * (d.toNat % 2) := by
  obtain ⟨hcount, hshift⟩ := h
  have hbit : ((d.extractLsb' 0 1).zeroExtend 5 : BitVec 5).toNat = d.toNat % 2 := by
    rw [BitVec.toNat_setWidth, extract_low_toNat]
    omega
  have hfit : d.toNat % 2 * 2 ^ n < 2 ^ 5 := by
    have hpow : 2 ^ n ≤ 2 ^ 4 := Nat.pow_le_pow_right (by decide) (by omega)
    have := Nat.mul_le_mul (by omega : d.toNat % 2 ≤ 1) hpow
    omega
  rw [Mmc1.shiftIn, BitVec.toNat_or, BitVec.toNat_shiftLeft, hbit, hcount, hshift, Nat.shiftLeft_eq, Nat.mod_eq_of_lt hfit,
    Nat.or_comm, Nat.mul_comm, ← Nat.two_pow_add_eq_or_of_lt hv, Nat.add_comm]

theorem holds_shifted {r : Mmc1} {n v : Nat} (d : Byte) (h : r.Holds n v) (hn : n < 5) (hv : v < 2 ^ n) :
    (r.shifted d).Holds (n + 1) (v + 2 ^ n * (d.toNat % 2)) :=
  ⟨congrArg (· + 1) h.1, shiftIn_toNat d h hn hv⟩

/-- Committing forgets what the port held. -/
theorem commit_shifted (r : Mmc1) (d : Byte) (a : Word) (value : BitVec 5) : (r.shifted d).commit a value = r.commit a value :=
  rfl

/-! ## Writes to the port -/

/-- The cartridge as an MMC1 with the given registers. -/
def Cart.withMmc1 (k : Cart) (r : Mmc1) : Cart := { k with regs := .mmc1 r }

theorem eq_withMmc1 {k : Cart} {r : Mmc1} (hk : k.regs = .mmc1 r) : k = k.withMmc1 r := by
  rw [Cart.withMmc1, ← hk]

theorem addressBits_toNat (a : Word) : (a.extractLsb' 13 2).toNat = a.toNat / 8192 % 4 := extract_toNat a 13 2

/-- A write that does not fill the port shifts. -/
theorem withMmc1_shift (k : Cart) {r : Mmc1} {n v : Nat} (h : r.Holds n v) (a : Word) {d : Byte} (hd : d.getLsbD 7 = false)
    (hn : n < 4) : (k.withMmc1 r).registerWrite a d = k.withMmc1 (r.shifted d) := by
  have hfull : ¬ r.count + 1 = 5 := by rw [h.1]; omega
  have hregs : r.registerWrite a d = r.shifted d := by
    rw [Mmc1.registerWrite, hd]
    exact if_neg hfull
  have happlies : r.appliesMirroring a d = false := by
    rw [Mmc1.appliesMirroring, hd, decide_eq_false hfull]
    rfl
  simp only [Cart.registerWrite, Cart.withMmc1, hregs, happlies]
  rfl

/-- The fifth write commits, and applies the mirroring of a new control value. -/
theorem withMmc1_fifth (k : Cart) {r : Mmc1} {v : Nat} (h : r.Holds 4 v) (a : Word) {d : Byte} (hd : d.getLsbD 7 = false) :
    (k.withMmc1 r).registerWrite a d =
      { k with regs := .mmc1 (r.commit a (r.shiftIn d)),
               mirroring := if a.toNat / 8192 % 4 = 0 then mmc1Mirroring (r.commit a (r.shiftIn d)).control
                            else k.mirroring } := by
  have hfull : r.count + 1 = 5 := by rw [h.1]
  have hregs : r.registerWrite a d = r.commit a (r.shiftIn d) := by
    rw [Mmc1.registerWrite, hd]
    exact if_pos hfull
  have happlies : r.appliesMirroring a d = decide (a.toNat / 8192 % 4 = 0) := by
    rw [Mmc1.appliesMirroring, hd, decide_eq_true hfull, addressBits_toNat]
    rfl
  simp only [Cart.registerWrite, Cart.withMmc1, hregs, happlies, decide_eq_true_eq]

/-- A write with bit 7 set empties the port and applies the mirroring of the control value. -/
theorem withMmc1_empty (k : Cart) (r : Mmc1) (a : Word) {d : Byte} (hd : d.getLsbD 7 = true) :
    (k.withMmc1 r).registerWrite a d =
      { k with regs := .mmc1 { r with shift := 0, count := 0, control := r.control ||| 0x0C },
               mirroring := mmc1Mirroring (r.control ||| 0x0C) } := by
  have hregs : r.registerWrite a d = { r with shift := 0, count := 0, control := r.control ||| 0x0C } := by
    rw [Mmc1.registerWrite, hd]
    rfl
  have happlies : r.appliesMirroring a d = true := by
    rw [Mmc1.appliesMirroring, hd]
    rfl
  simp only [Cart.registerWrite, Cart.withMmc1, hregs, happlies, if_true]

/-- Bits 3 and 2 of the control register do not select the mirroring. -/
theorem mmc1Mirroring_or (control : BitVec 5) : mmc1Mirroring (control ||| 0x0C) = mmc1Mirroring control := by
  have hlow : (control ||| 0x0C).extractLsb' 0 2 = control.extractLsb' 0 2 := by
    apply BitVec.eq_of_getLsbD_eq
    intro j hj
    simp only [BitVec.getLsbD_extractLsb', BitVec.getLsbD_or]
    revert j
    simp only [Nat.forall_lt_succ_right]
    simp
  rw [mmc1Mirroring, mmc1Mirroring, hlow]

/-- Five writes with bit 7 clear, from an empty port: the five bits, the first lowest, are committed. -/
theorem withMmc1_five (k : Cart) {r : Mmc1} (h : r.Holds 0 0) (a0 a1 a2 a3 a4 : Word) {d0 d1 d2 d3 d4 : Byte}
    (hd : ∀ d ∈ [d0, d1, d2, d3, d4], d.getLsbD 7 = false) :
    let value : BitVec 5 := BitVec.ofNat 5
      (d0.toNat % 2 + 2 * (d1.toNat % 2) + 4 * (d2.toNat % 2) + 8 * (d3.toNat % 2) + 16 * (d4.toNat % 2))
    (((((k.withMmc1 r).registerWrite a0 d0).registerWrite a1 d1).registerWrite a2 d2).registerWrite a3 d3).registerWrite a4 d4 =
      { k with regs := .mmc1 (r.commit a4 value),
               mirroring := if a4.toNat / 8192 % 4 = 0 then mmc1Mirroring (r.commit a4 value).control else k.mirroring } := by
  intro value
  have h1 := holds_shifted d0 h (by decide) (by decide)
  have h2 := holds_shifted d1 h1 (by decide) (by omega)
  have h3 := holds_shifted d2 h2 (by decide) (by omega)
  have h4 := holds_shifted d3 h3 (by decide) (by omega)
  have hvalue : ((((r.shifted d0).shifted d1).shifted d2).shifted d3).shiftIn d4 = value := by
    apply BitVec.eq_of_toNat_eq
    rw [shiftIn_toNat d4 h4 (by decide) (by omega), BitVec.toNat_ofNat]
    omega
  rw [withMmc1_shift k h a0 (hd d0 (by simp)) (by decide), withMmc1_shift k h1 a1 (hd d1 (by simp)) (by decide),
    withMmc1_shift k h2 a2 (hd d2 (by simp)) (by decide), withMmc1_shift k h3 a3 (hd d3 (by simp)) (by decide),
    withMmc1_fifth k h4 a4 (hd d4 (by simp)), hvalue]
  rfl

/-- Settles O55: four shifts and the commit, then the register that the fifth address selects. -/
theorem mmc1SerialCommit : Obligations.Mmc1SerialCommit := by
  unfold Obligations.Mmc1SerialCommit
  intro k r a0 a1 a2 a3 a4 d0 d1 d2 d3 d4 hk mirrored
  have hmirrored (control : BitVec 5) : mmc1Mirroring control = mirrored control := by
    rewrite [mmc1Mirroring, extract_low_toNat]
    rfl
  rw [eq_withMmc1 hk]
  refine ⟨fun hshift hcount hbits => ?_, fun hbit => ?_⟩
  · intro value t
    have hempty : r.Holds 0 0 := ⟨hcount, congrArg BitVec.toNat hshift⟩
    have hr : ({ r with shift := 0, count := 0 } : Mmc1) = r := by
      cases r
      cases hshift
      cases hcount
      rfl
    have ht : t = _ := withMmc1_five k hempty a0 a1 a2 a3 a4 hbits
    rw [ht, Mmc1.commit, hr, addressBits_toNat]
    have hselect : a4.toNat / 8192 % 4 < 4 := Nat.mod_lt _ (by decide)
    generalize a4.toNat / 8192 % 4 = select at hselect
    obtain rfl | rfl | rfl | rfl := eq_of_lt_four hselect
    · rw [← hmirrored]
      rfl
    · rfl
    · rfl
    · rfl
  · rw [withMmc1_empty k r a0 hbit, mmc1Mirroring_or, hmirrored]
    rfl

end Sys2Proof.Machine
end

section
/-! The bank windows of MMC1 and MMC3, MMC3's register file and its scanline counter (spec/62_mappers.md sections 3 and
4). -/

namespace Sys2Proof.Machine

open Sys2Proof

/-! ## MMC1's windows (R648, R649) -/

/-- The PRG bank mode is bits 3 and 2 of the control register. -/
theorem prgMode_toNat (control : BitVec 5) :
    (control.extractLsb' 2 2).toNat = 2 * (control.getLsbD 3).toNat + (control.getLsbD 2).toNat := by
  rw [extract_toNat, getLsbD_toNat, getLsbD_toNat]
  omega

/-- The bank at `a` in the 32 KB modes, with the low bank fixed, and with the high bank fixed. -/
theorem mmc1_prgOffset (r : Mmc1) (m : CartImage) (a : Nat) :
    r.prgOffset m a = prg16k m
      (if r.control.getLsbD 3 = false then r.prg.toNat % 16 / 2 * 2 + (if 0xC000 ≤ a then 1 else 0)
       else if r.control.getLsbD 2 = false then (if 0xC000 ≤ a then r.prg.toNat % 16 else 0)
       else (if 0xC000 ≤ a then m.prgRomBanks - 1 else r.prg.toNat % 16)) (a % 0x4000) := by
  simp only [Mmc1.prgOffset, prgMode_toNat, decide_eq_true_eq]
  cases r.control.getLsbD 3 <;> cases r.control.getLsbD 2 <;> rfl

/-- The bank at `p` in the 8 KB mode and in the 4 KB mode. -/
theorem mmc1_chrOffset (r : Mmc1) (m : CartImage) (p : Nat) :
    r.chrOffset m p = chr4k m
      (if r.control.getLsbD 4 then (if 0x1000 ≤ p then r.chr1.toNat else r.chr0.toNat)
       else r.chr0.toNat / 2 * 2 + (if 0x1000 ≤ p then 1 else 0)) (p % 0x1000) := by
  simp only [Mmc1.chrOffset, decide_eq_true_eq]

/-- An even bank number, both ways of writing it. -/
theorem sub_mod_two (n : Nat) : n - n % 2 = n / 2 * 2 := by
  omega

/-- MMC1's windows: by the mode bits, and by the half that the address is in. -/
theorem mmc1_windows {k : Cart} {r : Mmc1} (hk : k.regs = .mmc1 r) (a : Word) (p : Nat) :
    let b := r.prg.toNat % 16
    let win : Nat := if a < 0xC000 then 0 else 1
    let cwin : Nat := if p < 0x1000 then 0 else 1
    k.prgOffset a = prg16k k.image
      (if r.control.getLsbD 3 = false then b - b % 2 + win
       else if r.control.getLsbD 2 = false then (if win = 0 then 0 else b)
       else (if win = 0 then b else k.image.prgRomBanks - 1)) (a.toNat % 0x4000) ∧
    k.chrOffset p = chr4k k.image
      (if r.control.getLsbD 4 then (if cwin = 0 then r.chr0.toNat else r.chr1.toNat)
       else r.chr0.toNat - r.chr0.toNat % 2 + cwin) (p % 0x1000) := by
  intro b win cwin
  have hprg : k.prgOffset a = r.prgOffset k.image a.toNat := by rw [Cart.prgOffset, hk]
  have hchr : k.chrOffset p = r.chrOffset k.image p := by rw [Cart.chrOffset, hk]
  rw [hprg, hchr, mmc1_prgOffset, mmc1_chrOffset, sub_mod_two, sub_mod_two]
  constructor
  · by_cases h : a < 0xC000
    · have h' : ¬ 0xC000 ≤ a.toNat := by bv_omega
      simp only [win, if_pos h, if_neg h', if_true]
      rfl
    · have h' : 0xC000 ≤ a.toNat := by bv_omega
      simp only [win, if_neg h, if_pos h', if_neg Nat.one_ne_zero]
      rfl
  · by_cases h : p < 0x1000
    · simp only [cwin, if_pos h, if_neg (Nat.not_le.mpr h), if_true]
    · simp only [cwin, if_neg h, if_pos (Nat.not_lt.mp h), if_neg Nat.one_ne_zero]

/-! ## MMC3's windows (R672, R673) -/

/-- Bank register `j`. -/
def Mmc3.bankReg (r : Mmc3) (j : Nat) : Nat := (r.bank[j]?.getD 0).toNat

/-- Bank register `j` without its lowest bit: the first of two 1 KB banks. -/
def Mmc3.evenBank (r : Mmc3) (j : Nat) : Nat := r.bankReg j - r.bankReg j % 2

theorem mmc3_prgBank (r : Mmc3) (m : CartImage) {win : Nat} (h : win < 4) : r.prgBank m win =
    (if r.select.getLsbD 6 then [2 * m.prgRomBanks - 2, r.bankReg 7, r.bankReg 6, 2 * m.prgRomBanks - 1]
     else [r.bankReg 6, r.bankReg 7, 2 * m.prgRomBanks - 2, 2 * m.prgRomBanks - 1])[win]?.getD 0 := by
  unfold Mmc3.prgBank
  cases r.select.getLsbD 6 <;> obtain rfl | rfl | rfl | rfl := eq_of_lt_four h <;> rfl

theorem mmc3_chrBank (r : Mmc3) {win : Nat} (h : win < 8) : r.chrBank win =
    (if r.select.getLsbD 7 then
      [r.bankReg 2, r.bankReg 3, r.bankReg 4, r.bankReg 5, r.evenBank 0, r.evenBank 0 + 1, r.evenBank 1, r.evenBank 1 + 1]
     else
      [r.evenBank 0, r.evenBank 0 + 1, r.evenBank 1, r.evenBank 1 + 1, r.bankReg 2, r.bankReg 3, r.bankReg 4,
        r.bankReg 5])[win]?.getD 0 := by
  unfold Mmc3.chrBank Mmc3.evenBank
  simp only [sub_mod_two]
  cases r.select.getLsbD 7 <;> obtain rfl | rfl | rfl | rfl | rfl | rfl | rfl | rfl := eq_of_lt_eight h <;> rfl

/-- Settles O56: the windows of MMC1 by its mode bits, of MMC3 by the list of its banks. -/
theorem serialMapperWindows : Obligations.SerialMapperWindows := by
  unfold Obligations.SerialMapperWindows
  intro k a p ha hp n chrLen
  refine ⟨fun r hk => mmc1_windows hk a p, fun r hk => ?_⟩
  intro R n8 win bank pair low high cbank
  have hprg : k.prgOffset a = prg8k k.image (r.prgBank k.image win) (a.toNat % 0x2000) := by rw [Cart.prgOffset, hk]
  have hchr : k.chrOffset p = chr1k k.image (r.chrBank (p / 0x400)) (p % 0x400) := by rw [Cart.chrOffset, hk]
  have hwin : win < 4 := by omega
  rw [hprg, hchr, mmc3_prgBank r k.image hwin, mmc3_chrBank r (by omega : p / 0x400 < 8)]
  exact ⟨rfl, rfl⟩

/-! ## MMC3's register file (R671) -/

/-- Bit 0 of an address says whether it is odd. -/
theorem address_odd (a : Word) : a.getLsbD 0 = decide (a.toNat % 2 = 1) := by
  rw [BitVec.getLsbD, Nat.testBit_zero]

section
variable {k : Cart} {r : Mmc3} (hk : k.regs = .mmc3 r)
include hk

theorem registerWrite_mmc3 (a : Word) (d : Byte) : k.registerWrite a d =
    { k with regs := .mmc3 (r.registerWrite a d), mirroring := mmc3Mirroring k.mirroring a d } := by
  simp only [Cart.registerWrite, hk]

end

/-- Settles O57: by the range of the address. -/
theorem mmc3RegisterWrites : Obligations.Mmc3RegisterWrites := by
  unfold Obligations.Mmc3RegisterWrites
  intro k r a d hk ha odd regs
  have hodd : a.getLsbD 0 = odd := address_odd a
  rw [registerWrite_mmc3 hk, Mmc3.registerWrite, mmc3Mirroring, addressBits_toNat, hodd]
  by_cases hA : a < 0xA000
  · have hbits : a.toNat / 8192 % 4 = 0 := by bv_omega
    rw [if_pos hA, hbits]
    cases odd <;> rfl
  rw [if_neg hA]
  by_cases hC : a < 0xC000
  · have hbits : a.toNat / 8192 % 4 = 1 := by bv_omega
    rw [if_pos hC, hbits]
    cases odd <;> rfl
  rw [if_neg hC]
  by_cases hE : a < 0xE000
  · have hbits : a.toNat / 8192 % 4 = 2 := by bv_omega
    rw [if_pos hE, hbits]
    cases odd <;> rfl
  · have hbits : a.toNat / 8192 % 4 = 3 := by bv_omega
    rw [if_neg hE, hbits]
    cases odd <;> rfl

/-! ## MMC3's scanline counter (R675) -/

theorem clocksMmc3_iff (u : Ppu) : u.clocksMmc3 = true ↔
    u.cycle = 315 ∧ (u.scanline < 240 ∨ u.scanline = 261) ∧ (u.mask.showBg = true ∨ u.mask.showSprites = true) := by
  rw [Ppu.clocksMmc3, Bool.and_eq_true, Bool.and_eq_true, decide_eq_true_eq, renderLine_iff, Ppu.renderingEnabled,
    Bool.or_eq_true, and_assoc]
  rfl

theorem mapperStep_mmc3 {s : State} {r : Mmc3} (hk : s.cart.regs = .mmc3 r) : s.mapperStep =
    if s.ppu.clocksMmc3 then
      (if r.clockTriggers then (s.setCart { s.cart with regs := .mmc3 r.clock }).triggerIrq
       else s.setCart { s.cart with regs := .mmc3 r.clock })
    else s := by
  simp only [State.mapperStep, hk]

theorem triggerIrq_cart (s : State) : s.triggerIrq.cart = s.cart := by
  unfold State.triggerIrq
  split <;> rfl

theorem triggerIrq_irqPending (s : State) :
    s.triggerIrq.cpu.irqPending = true ↔ s.cpu.irqPending = true ∨ s.cpu.p.i = false := by
  unfold State.triggerIrq
  cases s.cpu.p.i <;> simp

theorem clock_zero {r : Mmc3} (h : r.irqCounter = 0) : r.clock = { r with irqCounter := r.irqLatch } := by
  rw [Mmc3.clock, if_pos h]

theorem clock_latch (r : Mmc3) : r.clock.irqLatch = r.irqLatch := rfl

theorem clock_enable (r : Mmc3) : r.clock.irqEnable = r.irqEnable := rfl

theorem clock_counter {r : Mmc3} (h : r.irqCounter ≠ 0) : r.clock.irqCounter.toNat = r.irqCounter.toNat - 1 := by
  have hcount : r.clock.irqCounter = r.irqCounter - 1 := if_neg h
  bv_omega

/-- `n` clocks after the reload, the counter is `n` below the latch. -/
theorem repeat_clock {r : Mmc3} {n : Nat} (h : r.irqCounter = 0) (hn : n ≤ r.irqLatch.toNat) :
    (Nat.repeat Mmc3.clock (n + 1) r).irqCounter.toNat = r.irqLatch.toNat - n ∧
    (Nat.repeat Mmc3.clock (n + 1) r).irqLatch = r.irqLatch ∧
    (Nat.repeat Mmc3.clock (n + 1) r).irqEnable = r.irqEnable := by
  induction n with
  | zero =>
    show r.clock.irqCounter.toNat = _ ∧ _
    rw [clock_zero h]
    exact ⟨rfl, rfl, rfl⟩
  | succ n ih =>
    obtain ⟨hcounter, hlatch, henable⟩ := ih (by omega)
    have hrunning : (Nat.repeat Mmc3.clock (n + 1) r).irqCounter ≠ 0 := by
      intro hzero
      rw [hzero] at hcounter
      exact absurd hcounter (by simp; omega)
    rw [Nat.repeat]
    refine ⟨?_, hlatch, henable⟩
    rw [clock_counter hrunning, hcounter]
    omega

/-- With a latch of 0 the counter stays 0. -/
theorem repeat_clock_zero {r : Mmc3} (h : r.irqCounter = 0) (hlatch : r.irqLatch = 0) (n : Nat) :
    Nat.repeat Mmc3.clock n r = r := by
  have hstay : r.clock = r := by
    cases r
    cases h
    cases hlatch
    rfl
  induction n with
  | zero => rfl
  | succ n ih => rw [Nat.repeat, ih, hstay]

theorem clockTriggers_iff (r : Mmc3) : r.clockTriggers = true ↔ r.irqEnable = true ∧ r.irqCounter.toNat = 1 := by
  rw [Mmc3.clockTriggers, Bool.and_eq_true, decide_eq_true_eq, ← BitVec.toNat_inj]
  rfl

/-- Settles O58: the clocked dot, then the count from the reload on. -/
theorem mmc3ScanlineCounter : Obligations.Mmc3ScanlineCounter := by
  unfold Obligations.Mmc3ScanlineCounter
  refine ⟨fun s r hk => ⟨fun hidle => ?_, fun hdot hline hshow => ?_⟩, fun r n hzero hn => ?_, fun r n hzero hlatch => ?_⟩
  · have hquiet : ¬ s.ppu.clocksMmc3 = true := by
      rw [clocksMmc3_iff]
      rintro ⟨hdot, hline, hshow⟩
      obtain hdot' | hline' | ⟨hbg, hsp⟩ := hidle
      · exact hdot' hdot
      · omega
      · simp [hbg, hsp] at hshow
    rw [mapperStep_mmc3 hk, if_neg hquiet]
  · rw [mapperStep_mmc3 hk, if_pos ((clocksMmc3_iff _).mpr ⟨hdot, hline, hshow⟩)]
    cases r.clockTriggers with
    | true => exact ⟨triggerIrq_cart _, (triggerIrq_irqPending _).trans (by simp [State.setCart])⟩
    | false => exact ⟨rfl, by simp [State.setCart]⟩
  · intro after
    obtain ⟨hcounter, hlatch, henable⟩ := repeat_clock hzero hn
    refine ⟨hcounter, hlatch, ?_⟩
    rw [clockTriggers_iff, hcounter, henable]
    exact and_congr_right fun _ => by omega
  · rw [repeat_clock_zero hzero hlatch, Mmc3.clockTriggers, hzero]
    simp

end Sys2Proof.Machine
end

section
/-! Mapper185's lockout (spec/62_mappers.md R660) and reset (spec/70_reset_and_hazards.md section 1). -/

namespace Sys2Proof.Machine

open Sys2Proof

/-! ## Mapper185 -/

theorem m185Unlocked_zero : m185Unlocked 0 = false := by
  unfold m185Unlocked
  split
  · next h =>
    simp only [m185Admissible, Bool.and_eq_true, Bool.not_eq_true'] at h
    exact h.1.1.1
  · rfl

theorem m185Unlocked_code : m185Unlocked (m185Next (m185Next 0 0x33) 0x11) = true := by
  unfold m185Unlocked m185Next
  split
  · next h =>
    simp only [m185Admissible, Bool.and_eq_true] at h
    exact h.1.1.2
  · rfl

section
variable {k : Cart} {st : Nat} (hk : k.regs = .mapper185 st)
include hk

theorem registerWrite_mapper185 (a : Word) (d : Byte) : k.registerWrite a d = { k with regs := .mapper185 (m185Next st d) } := by
  simp only [Cart.registerWrite, hk]

theorem chrRead_locked (h : m185Unlocked st = false) (p : Nat) : k.chrRead p = 0x0F := by
  simp only [Cart.chrRead, hk, h]
  rfl

theorem chrRead_opened (h : m185Unlocked st = true) (p : Nat) : k.chrRead p = k.chr.read (p % k.image.chrLen) := by
  simp only [Cart.chrRead, Cart.chrOffset, hk, h]
  rfl

theorem reset_mapper185 : k.reset.regs = .mapper185 0 := by
  simp only [Cart.reset, hk, MapperRegs.reset]

end

/-- Settles O59: the state moves by the transition function, of which only R660's (a) and (b) are used. -/
theorem mapper185Lockout : Obligations.Mapper185Lockout := by
  unfold Obligations.Mapper185Lockout
  intro k st a b p hk hp byte
  have hreset := reset_mapper185 hk
  refine ⟨fun h => chrRead_locked hk h p, fun h => chrRead_opened hk h p, hreset,
    chrRead_locked hreset m185Unlocked_zero p, ?_, fun d => registerWrite_mapper185 hk a d⟩
  rw [registerWrite_mapper185 hreset, registerWrite_mapper185 rfl, chrRead_opened rfl m185Unlocked_code]
  rfl

/-! ## Reset -/

theorem regs_reset_reset (r : MapperRegs) : r.reset.reset = r.reset := by
  cases r <;> rfl

theorem cart_reset_reset (k : Cart) : k.reset.reset = k.reset := by
  simp only [Cart.reset, regs_reset_reset]

/-- A second reset finds everything as the first left it. -/
theorem resetMachine_resetMachine (s : State) : s.resetMachine.resetMachine = s.resetMachine := by
  have hcart : s.resetMachine.cart.reset = s.resetMachine.cart := cart_reset_reset s.cart
  unfold State.resetMachine at hcart ⊢
  simp only [hcart]
  rfl

/-- The reset vector, read through the mapper already reset. -/
theorem memRead16_resetVector (s : State) :
    memRead16 0xFFFC s.resetMachine = .ok (s.resetMachine.cpu.pc, s.resetMachine) := by
  unfold memRead16
  rw [memRead_prgRom _ (by decide)]
  simp only [bind, Except.bind]
  rw [memRead_prgRom _ (by decide)]
  rfl

/-- Settles O60: field by field; the variants' registers by the variant. -/
theorem resetValues : Obligations.ResetValues := by
  unfold Obligations.ResetValues
  refine ⟨fun s => ?_, rfl⟩
  intro t
  refine ⟨rfl, memRead16_resetVector s, rfl, rfl, rfl, fun _ => rfl, rfl, ?_, ?_, rfl, resetMachine_resetMachine s⟩
  · show s.cart.image.headerMirroring.mirroring = _
    cases s.cart.image.headerMirroring <;> rfl
  · show s.cart.regs.reset = _
    cases s.cart.regs <;> rfl

end Sys2Proof.Machine
end
